-- ==== Sys2Proof/Word.lean ====
section
/-! DEFINITION. The word types of the block and their plainest arithmetic (R7 to R9). -/

namespace Sys2Proof

/-- One byte as it travels in packets, frames, records and memories (R9). -/
abbrev Byte := BitVec 8

/-- The value of a little-endian byte string (R9). -/
def leValue : List Byte → Nat
  | [] => 0
  | b :: bs => b.toNat + 256 * leValue bs

/-- The little-endian encoding of a natural number in `n` bytes; higher bits are dropped (R8, R9). -/
def leBytes : Nat → Nat → List Byte
  | 0, _ => []
  | n + 1, v => BitVec.ofNat 8 v :: leBytes n (v / 256)

@[simp] theorem leBytes_length (n v : Nat) : (leBytes n v).length = n := by
  induction n generalizing v with
  | zero => rfl
  | succ n ih => simp [leBytes, ih]

/-- Every byte string of one fixed length is the encoding of the value it decodes to. -/
theorem leBytes_leValue (bs : List Byte) : leBytes bs.length (leValue bs) = bs := by
  induction bs with
  | nil => rfl
  | cons b bs ih =>
    have h1 : (b.toNat + 256 * leValue bs) / 256 = leValue bs := by have := b.isLt; omega
    have h2 : BitVec.ofNat 8 (b.toNat + 256 * leValue bs) = b := by
      apply BitVec.eq_of_toNat_eq; have := b.isLt; simp; omega
    simp [leBytes, leValue, h1, h2, ih]

end Sys2Proof
end

