-- ==== Sys2Proof/Syntax.lean ====
section
/-! DEFINITION. The commands the block takes: one constructor of `Instr` per row of the spec's table of operations and
events, with the operands the row's rule gives it. What the outside world decides (a measured value, a received byte, the
level of a pin, which check of a physical quantity failed) is an operand; what the module decides is computed from State. -/

namespace Sys2Proof

/-- The transports that reach the dictionary (R304, R347). -/
inductive Transport where
  | can | vexlink | svc
  deriving DecidableEq, Repr

/-- What every Grenz request carries beside its operation: the transport, the CAN class (R286; on SVC the SEQ of
the frame that carries the request, R379; ignored on Vexlink) and the TOKEN (R289). -/
structure Req where
  via   : Transport
  cls   : Nat
  token : Nat
  deriving DecidableEq, Repr

/-- A Vexlink packet as its characters arrive (R247): the 16 header bytes, the payload bytes, the packet CRC field, and
whether it ended in K30.7 rather than EOP (R230, R268). -/
structure VxPacket where
  header  : List Byte
  payload : List Byte
  crc     : Nat
  aborted : Bool
  deriving DecidableEq, Repr

/-- A CAN frame as received (R284, R301). -/
structure CanFrame where
  id       : Nat
  extended : Bool
  remote   : Bool
  fd       : Bool
  data     : List Byte
  deriving DecidableEq, Repr

/-- What the error confinement of ISO 11898-1 counts on the bus (R303): an error the module sees as a receiver, a dominant bit first after
its error flag, an error in a frame of its own, a frame of its own sent, a frame received, an acknowledgement error of its own frame with
no dominant bit in its error flag, and in arbitration a recessive stuff bit of its own read dominant. -/
inductive CanBusEvent where
  | rxError | rxDominant | txError | txOk | rxOk | passiveAckError | arbStuffError
  deriving DecidableEq, Repr

/-- An SVC frame as received: bytes 2 to 7 + LEN of Table 20-1, the FCRC field, and START. -/
structure SvcFrame where
  body  : List Byte
  fcrc  : Nat
  start : List Byte := [0xA5, 0xC3]
  deriving DecidableEq, Repr

/-- The straps as they stand at a sample (R372). -/
structure Straps where
  role   : Fin 8
  boot   : Bool
  refsel : Bool
  deriving DecidableEq, Repr

/-- The levels of the two light-request pins: LIGHT_ON asserted (high), LIMP_N asserted (low). -/
structure LightPins where
  lightOn : Bool
  limpLow : Bool
  deriving DecidableEq, Repr

/-- A family of readings over the whole array: those not listed read `common`. -/
structure Readings (α : Type) where
  common : α
  exc    : List (Nat × α)
  deriving DecidableEq, Repr

/-- The five raw ADC readings of one probe (R135, R136): dark H, dark V, lit H, lit V, forward voltage. -/
structure ProbeReading where
  hd : Nat
  vd : Nat
  hl : Nat
  vl : Nat
  v  : Nat
  deriving DecidableEq, Repr

/-- What one VLED sample shows of one phase (R151, R156): it reached the cycle-by-cycle limit; it failed to reach 0.3 A
within 2 us of being turned ON while VLED is below V_SET. -/
structure PhaseLook where
  atLimit : Bool
  failed  : Bool
  deriving DecidableEq, Repr

/-- One comma detector's report (R234): complete TRN sets held at offset 0, comma inverted, COMMA_POS (none when no
comma has been seen). -/
structure LaneLook where
  stable   : Nat
  inverted : Bool
  commaPos : Option (Fin 10)
  deriving DecidableEq, Repr

/-- The supply edges that are fed forward (R153). -/
inductive FeedEdge where
  | senseEntry | senseExit | probeOn | probeOff
  deriving DecidableEq, Repr

/-- The stages of a composition that the watchdog times (R205, EV086). -/
inductive CompStage where
  | statistics | limiter | write
  deriving DecidableEq, Repr

/-- How a packet that has arrived ends (R230, R239): with its EOP, with K30.7, at a character error on a physical lane, or not at all
because its link is lost first. -/
inductive PacketEnd where
  | eop | k30_7 | charError (lane : Fin 4) | lost
  deriving DecidableEq, Repr

/-- The conditions of Table 11-7. -/
inductive LossKind where
  | electricalIdle | cdrUnlock | charErrors | markerMissing
  deriving DecidableEq, Repr

/-- The reasons of EV102 VX_LANE_FAIL (R233). -/
inductive LaneFail where
  | noLock | noComma | skew | widthMismatch | dupLane
  deriving DecidableEq, Repr

/-- The power domains that an access can wake (R357). -/
inductive Domain where
  | link | comp | scan | emit | aux
  deriving DecidableEq, Repr

/-- The wake sources of Table 18-7 as a set of their bits. -/
structure WakeBits where
  can     : Bool
  lightOn : Bool
  limpN   : Bool
  vinRise : Bool
  timer   : Bool
  vexlink : Bool
  deriving DecidableEq, Repr

/-- The duplicated flash records by the RECORD codes of R424; an FB image and a zone record carry their number. -/
inductive RecordId where
  | persist | gzStore | defectMap | gpTable | storeHeader | surface0 | parkImage | crossList
  | fbImage (i : Fin 4)
  | slotA | slotB | keys
  | zone (z : Fin 512)
  | canAddrLast | unlockCount | severities
  deriving DecidableEq, Repr

/-- Which copy of a duplicated record a write or a check concerns (R281). -/
inductive CopyId where
  | a | b
  deriving DecidableEq, Repr

/-- How many writes of copy A and of copy B of a record fail their check before one passes (R281). -/
structure CopyFails where
  a : Fin 3
  b : Fin 3
  deriving DecidableEq, Repr

/-- How the load of the new bank ends (R387): it passes, after the checks listed needed their second look; or a check is LASTING. A check is
that of a chunk's storage tag, or the seal of the slot record. -/
inductive BankLoad where
  | passed (reread : List (Option (Fin 15)))
  | failed (chunk : Option (Fin 15))
  deriving DecidableEq, Repr

/-- Why a new image refuses a hand-over record (R391), or that it accepts it, at once or with a seal that held on its reread only. -/
inductive HandoverVerdict where
  | accepted | reread | version | seal | criticalSection | content | timeout
  deriving DecidableEq, Repr

/-- What the boot ROM finds of the two stored images (R367): whether the image in slot A, and in slot B, fails verification, and the chunk in
which it fails where that is in one. -/
structure StoredImages where
  aFails : Bool := false
  bFails : Bool := false
  aChunk : Option (Fin 15) := none
  bChunk : Option (Fin 15) := none
  deriving DecidableEq, Repr

/-- Codes that the guard checker read differently from what the bank holds: pixel x, pixel y, code read. -/
abbrev Misreads := List (Nat × Nat × Nat)

/-- What the looks of a composition pass gave beside what the stored content says (R86, R125): tiles that decoded at their second look, by
surface; a tile read in error at both looks, by layer; and signatures of INTENSITY windows that the pass formed wrongly. -/
structure PassLooks where
  retried    : List (Fin 64 × Nat)
  failed     : Option (Fin 8 × Nat)
  signatures : List (Fin 16 × Nat)
  deriving DecidableEq, Repr

/-- The commands: one constructor per row of spec/opcode_table.json, in its order. An operand with a default is what the surroundings bring
to the command beside what its row names; left out, it is their uneventful case. -/
inductive Instr where
  | powerOnReset (torn : Bool := false)
  | brownOut (torn : Bool := false)
  | resetRelease (straps : Straps)
  | resetN
  | watchdogExpiry
  | watchdogService
  | lockstepDifference
  | bootComplete (pins : LightPins) (images : StoredImages := {}) (reread : List (RecordId × CopyId) := [])
  | overvoltageEnter
  | overvoltageLeave
  | globalCycleBoundary
  | rowSlotStart
  | zoneCycleBegin (z : Fin 512) (sampleUa : Int)
  | commit (p : VxPacket)
  | commitBind
  | statisticsPassEnd (looks : PassLooks)
  | rowComplete (looks : PassLooks)
  | compositionWatchdog (stage : CompStage)
  | halfLockDivergence (field left right : Nat)
  | guardPassDone (misread : Misreads)
  | guardRereadDone (misread : Misreads)
  | monitorCopyDone
  | senseProbeDone (readings : Readings ProbeReading)
  | senseResultsDelivered (adcRef : Readings Nat) (bins : Readings Nat)
  | reflexProcessingDone
  | reflexHoldExpiry (slot : Fin 16)
  | vledSample (vledMv : Nat) (phases : List PhaseLook)
  | senseFeedForward (edge : FeedEdge)
  | vledFeTimeout
  | softStartDone (reread : List (RecordId × CopyId) := [])
  | gainPeriod (zonesDone : Nat) (headroomDone : Bool)
  | zoneFeTimeout (z : Fin 512)
  | measuredPowerCheck (vledMeanMv : Nat)
  | gzStorePeriod
  | tempSample (td : Fin 4) (t10 : Int)
  | thermZoneLookTimeout (z : Fin 512)
  | shutdownRecordWrite
  | hostHeartbeat (addr seq : Nat)
  | hostLossTimeout (pins : LightPins)
  | limpNLowTimeout
  | limpNHighTimeout (lightOn : Bool)
  | lightOnTimeout
  | fbRenderPeriod
  | renderSumsDone (reread : List (RecordId × CopyId) := [])
  | renderCodesDone
  | rxLocked
  | alignPoll (lane : Fin 4) (look : LaneLook)
  | deskewDone (arrivalUi : List Nat)
  | laneMapAccepted (laneInfo : List (Option Byte))
  | bringupRetry (lane : Fin 4) (reason : LaneFail)
  | linkLoss (lane : Fin 4) (kind : LossKind)
  | vxLossTimeout
  | txIdleTimeout (cancelled : Bool := false)
  | announceReceived (level : Fin 3)
  | wakeBurstDetected
  | ownPacketQueued
  | txRestart
  | packetHeader (header : List Byte) (ends : PacketEnd := .eop) (credits : List (Nat × Nat) := []) (errors : List (Fin 4) := [])
  | surfWrite (p : VxPacket)
  | surfRead (p : VxPacket)
  | beamLine (p : VxPacket)
  | paramReq (p : VxPacket)
  | enum (p : VxPacket) (ends : PacketEnd := .eop)
  | hostNak (p : VxPacket)
  | unknownTypePacket (p : VxPacket)
  | outputPacketBoundary (waited20us forwardWaiting : Bool) (buffered : Nat := 0)
  | creditSetTimer
  | statusPeriod
  | scanDone (misread : List (Nat × Byte)) (reread : List (RecordId × CopyId) := [])
  | surfaceVerifyDone (misread : List (Nat × Byte))
  | scrubCalPeriod
  | scrubSurfPeriod
  | flashRecordWrite (record : RecordId) (copy : CopyId) (verified : Bool)
  | crcsStart (r : Req)
  | crcsAbort (r : Req)
  | surfCmdClose (r : Req) (n : Fin 64)
  | surfCmdClear (r : Req) (n : Fin 64)
  | surfGeometryWrite (r : Req) (n : Fin 64) (sub : Nat) (data : List Byte)
  | read (r : Req) (index sub : Nat)
  | write (r : Req) (index sub : Nat) (data : List Byte)
  | blockReadInit (r : Req) (index sub offset length blksize : Nat)
  | blockWriteInit (r : Req) (index sub offset total : Nat)
  | blockSeg (r : Req) (seq : Nat) (last : Bool) (data : List Byte)
  | blockCrc (r : Req) (block crc : Nat)
  | blockAck (r : Req) (block result blksize : Nat) (final : Bool)
  | abort (r : Req) (code : Nat)
  | blockTimeout
  | requestTimeLimit (r : Req)
  | unlockReq (r : Req) (level : Nat)
  | unlockResp (r : Req) (level : Nat) (response : List Byte)
  | unlockTimeout (via : Transport)
  | lock (r : Req)
  | accessIdleTimeout (via : Transport)
  | sync (group : Nat) (tag : Nat)
  | heartbeat (bus : List CanBusEvent := [])
  | eventFrameTimer
  | canBusOff
  | busOffRecovered
  | canCmdRecover (r : Req)
  | strangerFrame (f : CanFrame)
  | malformedFrame (f : CanFrame)
  | addrClash (id : Nat)
  | canAddrApply
  | svcGrenz (f : SvcFrame)
  | imgBegin (f : SvcFrame)
  | imgData (f : SvcFrame) (written : Bool := true)
  | imgEnd (f : SvcFrame) (written : Bool := true) (fails : CopyFails := ⟨0, 0⟩)
  | imgAbort (f : SvcFrame)
  | svcTransferSilence
  | svcIdleDiscard
  | stateRequestPark (r : Req)
  | stateRequestStandby (r : Req)
  | stateRequestReady (r : Req)
  | stateRequestLit (r : Req)
  | stateRequestService (r : Req)
  | stateTransitionDone
  | persistStore (r : Req)
  | restoreDefaults (r : Req)
  | persistCommitDue
  | resetCmd (r : Req)
  | dictionaryResetAssert
  | capCmdStart (r : Req)
  | injTarget (r : Req) (value : Nat)
  | updateActivate (r : Req)
  | updateActivateCold (r : Req)
  | updateDiscard (r : Req)
  | bankLoadDone (load : BankLoad)
  | handoverResume (verdict : HandoverVerdict)
  | rallyRevert (reread : List (RecordId × CopyId) := [])
  | probationEnd
  | eventClear (r : Req) (value : Nat)
  | logClear (r : Req)
  | faultAck (r : Req)
  | zoneFaultClear (r : Req) (zone : Nat)
  | compatEnable (r : Req) (value : Nat)
  | ph16kMode (r : Req) (value : Nat)
  | ph16kMap (r : Req) (offset : Nat) (data : List Byte)
  | commitStage (r : Req) (data : List Byte)
  | auxEnable (r : Req) (value : Nat)
  | reflexEnable (r : Req) (value : Nat)
  | gainSource (r : Req) (value : Nat)
  | senseIntervalCyc (r : Req) (value : Nat)
  | zoneBlankMask (r : Req) (offset : Nat) (data : List Byte)
  | logRecords (r : Req)
  | hostAbsentReadyTimeout
  | parkIdleTimeout
  | sleepGo (fired : WakeBits) (levels : Option LightPins := none)
  | wakeSource (fired : WakeBits) (levels : Option LightPins := none)
  | wakeAlarm
  | parkResume (reread : List (RecordId × CopyId) := [])
  | domainIdleTimeout (d : Domain)
  | logWrite
  | auxFrameStart
  | auxLineSlot (line : Fin 8) (failing : List (Fin 16))
  | auxShiftDone (returned : List Byte)
  | auxBlankRise
  | auxLatch
  | supervisorLimpAttempt
  | vinDeratingChange (vinMv : Nat)
  | campionImageLoadDone (reread : List (RecordId × CopyId) := [])
  | handoverQuiesce
  | coldActivationResume (reread : List (RecordId × CopyId) := [])
  | slowCrystalChangeover
  | resetNRelease (straps : Straps)
  | wakeRelockDone (ok : Bool)
  deriving DecidableEq, Repr

end Sys2Proof
end

