-- ==== Sys2Proof/Config.lean ====
section
/-! DEFINITION. What one module fixes and the spec leaves open: identity and key material (opaque: nothing in Lean can
evaluate them), the free values, and the factory content that State.reset names (see notes/assumptions). -/

namespace Sys2Proof

/-- HW_REV (Table 15-4, "factory"). Free: the spec states no value. -/
opaque Config.hwRev : Nat

/-- The version of the image the factory ships in slot A (FW_VERSION). Free: the spec states no value. -/
opaque Config.fwVersion : Nat

/-- ROLLBACK of the image the factory ships in slot A (R383). Free: the spec states no value. -/
opaque Config.fwRollback : Nat

/-- HREC_WRITE of the image the factory ships in slot A (Table 20-4). Free: the spec states no value. -/
opaque Config.fwHrecWrite : Nat

/-- The 16 bytes of the module's serial number (Table 2-11). Free. -/
opaque Config.serial : Nat → Byte

/-- Byte `i` of the factory's K_INT key (R305). Free. -/
opaque Config.keyInt : Nat → Byte

/-- Byte `i` of the factory's K_SVC key (R305). Free. -/
opaque Config.keySvc : Nat → Byte

/-- Byte `i` of K_TRANSIT, held in one-time-programmable memory (R382). Free. -/
opaque Config.keyTransit : Nat → Byte

/-- Byte `i` of K_DEV, the device-unique key that hardware derives (R386). Free. -/
opaque Config.keyDev : Nat → Byte

/-- The public key (x, y) that signing key number `k` names, and whether it is revoked (R382). Free. -/
opaque Config.signingKey : Nat → Nat × Nat × Bool

/-- Byte number `i` of the module's random source (R305). Free: applied to the counter State.free. -/
opaque Config.randomByte : Nat → Byte

/-- Bytes that the spec does not state, by draw and position (the DATA of SYSTEM records that R340 and R341 leave open, and the other
cases that notes/assumptions names). Free. -/
opaque Config.unstatedByte : Nat → Nat → Byte

/-- The defect map of a module whose map and factory map are both lost, as pixels and codes (R282). Free: the spec states no
substitute. -/
opaque Config.unstatedMap : Nat → List (Nat × Nat)

/-- A temperature outside the s16 in which the module holds it (R181). Free: the spec states no result. -/
opaque Config.temperature : Int → BitVec 16

/-- What a 32-bit counter reads after a count that does not fit in it, by the sum. Free: the spec states no result. -/
opaque Config.overflowed : Nat → BitVec 32

/-- A ratio whose divisor is 0 (R136, R140: an expected signal of 0) or whose value does not fit 16 bits, by its dividend. Free:
the spec states no result. -/
opaque Config.ratioByZero : Nat → BitVec 16

/-- The device identification code of the test access port (Table 0-3). Free: the spec states no value. -/
opaque Config.idcode : BitVec 32

/-- The instruction that an instruction register's content other than all ones names: BYPASS (0), SAMPLE/PRELOAD (1), EXTEST (2), IDCODE (3).
Free: the spec states no codes. -/
opaque Config.tapOpcode : List Bool → Fin 4

/-- What the instruction register captures above its first two bits. Free. -/
opaque Config.irCapture : List Bool

/-- What the boundary register captures of the pins, by draw. Free: the spec states no order of the cells. -/
opaque Config.boundary : Nat → List Bool

/-- The bytes of the PERSIST record, of its GEN, scalars and DOMAINs, under its seal. Free: the spec states no layout (R314). -/
opaque Config.persistBytes : Nat → List (Nat × Nat) → List (Nat × List Byte) → List Byte

/-- The bytes of the PARK image under its seal, of its scalars, its DOMAINs and its lists. Free: the spec states no layout (R354). -/
opaque Config.parkBytes : List (Nat × Nat) → List (Nat × List Byte) → List (List Nat) → List Byte

/-- The data of a section of a hand-over record, by draw and TYPE (Table 20-7). Free: the spec states no layout. -/
opaque Config.handSection : Nat → Nat → List Byte

/-- The factory's K_INT as bytes. -/
def Config.factoryKInt : List Byte := (List.range 32).map Config.keyInt

/-- The factory's K_SVC as bytes. -/
def Config.factoryKSvc : List Byte := (List.range 32).map Config.keySvc

/-- The phosphor bin of the factory content: W57 (0) (R3). DESIGN CHOICE, see notes/assumptions. -/
def Config.bin : Nat := 0

end Sys2Proof
end

