-- ==== Sys2Proof/Machine/State.lean ====
section
/-! DEFINITION. State: every register, memory, queue, timer, mode and pin the spec gives the block, as plain data, and the
queue of waiting commands. Each field's comment names the rule it comes from; notes/assumptions say what the spec leaves
open. Sparse data is a list of (key, value) pairs in one canonical form (see Machine/Ops.lean). -/

namespace Sys2Proof.Machine

/-- Why the block stops. No rule of the spec stops the block, so a fault has one reason only. -/
inductive Fault where
  /-- Raised by no command: the type is kept closed and inhabited for Host.Core. Safe. -/
  | none
  deriving DecidableEq, Repr

/-- Why a command has no meaning. -/
inductive Refusal where
  /-- Raised by exec's arm of a command that has no meaning yet. Safe: the run stops. -/
  | notModelled (mnemonic : String)
  deriving DecidableEq, Repr

/-- DEV_STATE (Table 18-2), in the order of its values. -/
inductive DevState where
  | park | standby | ready | lit | service | fallback | safeDark
  deriving DecidableEq, Repr

/-- What the whole module is doing: held in reset, booting, in the service loader (R367), running firmware, or powered
down in PARK (R349, R364 to R367). -/
inductive Life where
  | inReset | booting | loader | running | parked
  deriving DecidableEq, Repr

/-- Reset causes in the order of their LAST_RESET_CAUSE values (Table 19-3). -/
inductive ResetCause where
  | por | brownOut | resetN | watchdog | dictionary | rallyRevert
  deriving DecidableEq, Repr

/-- The causes for which SAFE_DARK is held (Table 10-4). -/
inductive DarkCause where
  | supervisor | fault | thermal | noImage | failed
  deriving DecidableEq, Repr

/-- The causes that hold a zone switch open (R35). -/
inductive OpenCause where
  | host | fault | thermal | supervisor | state | reset
  deriving DecidableEq, Repr

/-- The causes that engage the fallback beam, in the order of their FB_STATUS bits (Table 10-7). -/
inductive FbCause where
  | hostLost | limpN | lightOnNoHost | reaction | thermal
  deriving DecidableEq, Repr

/-- The modes of a pixel cell (Table 2-1). -/
inductive CellMode where
  | emit | dark | probe | senseNb | senseRoad
  deriving DecidableEq, Repr

/-- What the array as a whole is doing (Tables 2-1 and 7-2): emitting, dark, in the probe half of a sense cycle, or in its road half. -/
inductive CellPhase where
  | emit | dark | probe | road
  deriving DecidableEq, Repr

/-- Surface states (Table 5-3). -/
inductive SurfPhase where
  | empty | opened | verifying | valid | faulty
  deriving DecidableEq, Repr

/-- Not-ready causes in the order of their LAST_CAUSE values (Table 15-34). -/
inductive NrCause where
  | none | noSurface | incomplete | format | geometry | lbShort | decode
  deriving DecidableEq, Repr

/-- LAYER_STATUS states (Table 15-34). -/
inductive LayerPhase where
  | ready | holding | fallback | dropped | disabled
  deriving DecidableEq, Repr

/-- The causes of a refresh (Table 3-4, R126, R331). -/
inductive Trigger where
  | max | reflex | budget | release | window | native
  deriving DecidableEq, Repr

/-- SIG_STATE (Table 15-12). -/
inductive SigPhase where
  | idle | isMatch | transient | lasting | blanked | suspended
  deriving DecidableEq, Repr

/-- Zone estimate modes (Table 9-2) in the order of their ZONE_TEMP values. -/
inductive TempMode where
  | measured | seeded | substituted | stale | invalid
  deriving DecidableEq, Repr

/-- Receiver states (Table 11-5) in the order of RX_STATE. -/
inductive RxState where
  | off | lock | align | deskew | enum | up | sleep
  deriving DecidableEq, Repr

/-- Lane states (Table 11-8). -/
inductive LaneState where
  | l0 | l1 | l2
  deriving DecidableEq, Repr

/-- Access levels (R304). -/
inductive Level where
  | user | integrator | service
  deriving DecidableEq, Repr

/-- A copy of a duplicated flash record (R281, R282): erased, holding content whose checks pass, or holding content whose
checks fail. -/
inductive FlashCopy (α : Type) where
  | erased
  | good (v : α)
  | bad
  deriving DecidableEq, Repr

/-- A duplicated flash record: copies A and B (R281). -/
structure Dup (α : Type) where
  a : FlashCopy α
  b : FlashCopy α
  deriving DecidableEq, Repr

/-- The content of a record and the CRC-32C seal that stands with it (R275, R281). -/
structure Sealed (α : Type) where
  content : α
  check   : Nat
  deriving DecidableEq, Repr

/-- The content of PERSIST (R314): GEN, the scalars and the DOMAINs that are not at their default. -/
structure PersistRecord where
  gen  : Nat
  vals : List (Nat × Nat)
  doms : List (Nat × List Byte)
  deriving DecidableEq, Repr

/-- A box record (Table 6-1): ENABLE, DILATE_PX and the inclusive rectangle. -/
structure Box where
  enable : Bool
  dilate : Nat
  x0 : Nat
  y0 : Nat
  x1 : Nat
  y1 : Nat
  deriving DecidableEq, Repr

/-- A disabled box slot. -/
def Box.off : Box := ⟨false, 0, 0, 0, 0, 0⟩

/-- One layer's binding (R69, Table 4-2): every object of the layer except LAYER_STATUS. -/
structure LayerBind where
  enable  : Bool
  blend   : Nat
  alpha   : Nat
  level   : Nat
  surface : Nat
  srcX : Nat
  srcY : Nat
  srcW : Nat
  srcH : Nat
  dstX : Int
  dstY : Int
  dstW : Nat
  dstH : Nat
  stepX : Nat
  stepY : Nat
  orgX : Int
  orgY : Int
  filtH : Nat
  filtV : Nat
  edge : Nat
  policy : Nat
  holdMax : Nat
  fbSurface : Nat
  deriving DecidableEq, Repr

/-- A layer as one pass draws it: its binding (its own, the last good one or the fallback one) and the geometry of the
surface it reads. `drawn` is false for a disabled or dropped layer. -/
structure LayerDraw where
  drawn  : Bool
  bind   : LayerBind
  format : Nat
  ptc    : Bool
  width  : Nat
  height : Nat
  base   : Nat
  len    : Nat
  deriving DecidableEq, Repr

/-- A layer record of a commit (Table 12-6). -/
structure LayerUpdate where
  layer : Nat
  bind  : LayerBind
  deriving DecidableEq, Repr

/-- A signature record of a commit (Table 6-5). -/
structure SigUpdate where
  window   : Nat
  armed    : Bool
  expectSelf : Bool
  expected : Nat
  deriving DecidableEq, Repr

/-- Where a commit came from (R256, R299, R329). -/
inductive CommitSource where
  | vexlink (seq : Nat) (ack broadcast : Bool)
  | sync
  | campion
  | returned
  deriving DecidableEq, Repr

/-- A commit as bound or pending (R12, R58, R329): its tag, layer updates, boxes, signature expectations, and whether it
is a Campion commit, whose only item is the snapshot taken when its composition starts. `stamp` is the count of staged
writes accepted before its binding (R114). -/
structure Commit where
  tag     : Nat
  layers  : List LayerUpdate
  boxes   : List (Nat × Box)
  sigs    : List SigUpdate
  campion : Bool
  source  : CommitSource
  stamp   : Nat
  deriving DecidableEq, Repr

/-- The expected state of a signature window (R123). -/
structure SigExpect where
  armed      : Bool
  expectSelf : Bool
  expected   : Nat
  deriving DecidableEq, Repr

/-- A signature window's commit-carried settings (R114, Table 6-4). -/
structure Win where
  x0 : Nat
  y0 : Nat
  x1 : Nat
  y1 : Nat
  mode : Nat
  deriving DecidableEq, Repr

/-- What stands in place of the layer stack for a Campion frame (R326 to R329, R332): the mode word, the map, the source as COMPAT_STATUS
numbers it (NONE 0, LOW 1, HIGH 2, MAP 3, CHECKER 4, ALL_ON 5, RAMP 6, ZERO 7), and its image with its number. -/
structure CampionSnap where
  mode   : Nat
  map    : List Byte
  source : Nat
  index  : Nat
  image  : List Byte
  substituted : Bool
  deriving DecidableEq, Repr

/-- Kinds of frame (EV001 to EV003). -/
inductive FrameKind where
  | committed | refresh | fallback
  deriving DecidableEq, Repr

/-- How far a work frame has come: in its statistics pass (or fallback sum pass), in its write pass (or code pass), or
with every row written. -/
inductive FrameStage where
  | statistics | writing | written
  deriving DecidableEq, Repr

/-- A flash image of 512 by 128 bytes with its descriptive fields (Table 10-6). -/
structure FbImage where
  roleMask : Nat
  gen      : Nat
  data     : List Byte
  deriving DecidableEq, Repr

/-- An own Vexlink packet before its header is stamped (R248, R253, R266). -/
structure OwnPacket where
  type    : Nat
  flags   : Nat
  tag     : Nat
  payload : List Byte
  deriving DecidableEq, Repr

/-- An own Vexlink packet as sent: its SEQ, address, epoch and content, and whether it was a retransmission. -/
structure SentPacket where
  seq    : Nat
  addr   : Nat
  epoch  : Nat
  retry  : Bool
  packet : OwnPacket
  deriving DecidableEq, Repr

/-- What the module puts on its Vexlink output, in order (R228, R239, R242 to R252). -/
inductive VxOut where
  /-- an own packet as its bytes: header, payload and packet CRC (R247 to R250) -/
  | packet (p : VxPacket)
  /-- a forwarded packet, by its header (R252) -/
  | forward (header : List Byte)
  /-- K30.7, which ends the packet being forwarded (R230) -/
  | abort
  /-- a credit ordered set (R267) -/
  | credit (addr total : Nat)
  /-- TRN sets with ANNOUNCE GOING_L1 or GOING_L2 (R243) -/
  | announce (level : Nat)
  /-- TRN sets with TRAIN after a cancelled announcement (R245) -/
  | train
  | wakeBurst
  | restart
  deriving DecidableEq, Repr

/-- What the Vexlink output is sending since its last packet boundary (R253). -/
inductive Sending where
  | nothing | ownPacket | forwardedPacket
  deriving DecidableEq, Repr

/-- A forwarded packet whose header has passed and that has not begun on the output: its header, how its upstream ends, and whether the
forward buffer holds it (R252, R253). -/
structure Forwarding where
  header   : List Byte
  ends     : PacketEnd
  buffered : Bool
  deriving DecidableEq, Repr

/-- A frame the module puts on the CAN bus. -/
structure CanOut where
  id   : Nat
  /-- the ESI bit (R284) -/
  esi  : Bool
  data : List Byte
  deriving DecidableEq, Repr

/-- A Grenz request in full, as the stored answers and the waiting requests need it (R291, R292). -/
structure GrenzMsg where
  req   : Req
  op    : Nat
  index : Nat
  sub   : Nat
  flags : Nat
  data  : List Byte
  deriving DecidableEq, Repr

/-- A Grenz answer: its OP, FLAGS and data; INDEX, SUBINDEX and TOKEN are the request's (R289). -/
structure GrenzAnswer where
  op    : Nat
  flags : Nat
  data  : List Byte
  deriving DecidableEq, Repr

/-- A surface write, command or geometry write held while its surface is in use (R99). A packet's write names the broadcast flag,
SEQ and TYPE of the packet whose answer it brings; `whole` is the offset and the length of the write of which it is a block, its own where
it stands alone (R101, R295). -/
inductive Held where
  | bytes (surface offset : Nat) (data : List Byte) (close : Bool) (answer : Option (Bool × Nat × Nat)) (whole : Nat × Nat)
  | close (surface : Nat)
  | clear (surface : Nat)
  | object (surface sub value : Nat)
  deriving DecidableEq, Repr

/-- A block transfer in progress (R294, R295, R262): the data held by a write, or the snapshot of a read; the bytes done; the block,
its next SEQ and its data so far. -/
structure Transfer where
  req     : Req
  index   : Nat
  sub     : Nat
  isWrite : Bool
  offset  : Nat
  total   : Nat
  data    : List Byte
  done    : Nat
  blksize : Nat
  block   : Nat
  nextSeq : Nat
  blockData : List Byte
  outOfOrder : Bool
  failedOnce : Bool
  /-- the check value of the block as it failed its first look; none where its segments were out of order (R295, R341) -/
  firstCrc : Option Nat
  deriving DecidableEq, Repr

/-- A Grenz frame toward a requester: its INDEX, SUBINDEX, OP and data (R289). -/
structure GrenzOut where
  req   : Req
  op    : Nat
  index : Nat
  sub   : Nat
  data  : List Byte
  deriving DecidableEq, Repr

/-- Who waits with an item for room in the write queue (R99): a Vexlink packet, with the answer that it brings once it has entered (the
BLOCK_ACK of a transfer's last segment, R262); a Grenz write; the SURF_IMAGE block of the transfer in progress. -/
inductive Waiter where
  | packet (answer : Option GrenzOut)
  | request (m : GrenzMsg)
  | block
  deriving DecidableEq, Repr

/-- An item that waits for room in the write queue, with the units of the receive buffer that its packet holds (R99, R267). -/
structure Waiting where
  item  : Held
  units : Nat
  who   : Waiter
  deriving DecidableEq, Repr

/-- A finding of the fault logic awaiting its second look (R201): the map code found, or CROSS. -/
inductive Finding where
  | code (c : Nat) (cls : Nat)
  | cross
  deriving DecidableEq, Repr

/-- A classified probe record (R200): unusable, none of the classes, or a class with its map code. -/
inductive PixelClass where
  | unusable | clean | stuckOn | short | isOpen | dim | cross
  deriving DecidableEq, Repr

/-- A segmented delivery being sent (R260): type, ID, REQ, the object's snapshot, and the offset of the next segment. -/
structure Delivery where
  type : Nat
  id   : Nat
  req  : Nat
  data : List Byte
  next : Nat
  stop : Nat
  deriving DecidableEq, Repr

/-- What waits in the queue of own packets (R253, R254): a packet, an event's record (R263), or a segmented delivery (R260), whose
segments leave one after another with nothing between them. -/
inductive OwnItem where
  | packet (p : OwnPacket)
  | event (rcd : List Byte)
  | delivery (d : Delivery)
  deriving DecidableEq, Repr

/-- Slot states (R386) in the order of their values. -/
inductive SlotState where
  | empty | staged | active | rejected
  deriving DecidableEq, Repr

/-- A slot record as flash holds it (R386): STATE, header, tag table, STORE_GEN. -/
structure SlotRecord where
  state : SlotState
  header : List Byte
  tags : List (List Byte)
  stored : List (List Byte)
  storeGen : Nat
  deriving DecidableEq, Repr

/-- RALLY_STATE (R388). -/
inductive RallyPhase where
  | idle | staged | handover | probation
  deriving DecidableEq, Repr

/-- The steps of a requested transition still to come (R351): each is the state reached when the step completes. -/
structure Transition where
  steps  : List DevState
  deriving DecidableEq, Repr

/-- A request to the memory scan engine (R277): who asked, the space, the start and the length. Users in priority order:
surface verification, host request, scrub. -/
inductive ScanUser where
  | verify (surface : Nat)
  | host
  | scrubCal (region : Nat)
  | scrubSurf (surface : Nat)
  deriving DecidableEq, Repr

/-- A pending second look of a stored check (R280, R198): the same scan user. -/
structure ScanJob where
  user  : ScanUser
  start : Nat
  len   : Nat
  deriving DecidableEq, Repr

/-- One set of values staged by a write until the frame or commit that takes it (R66, R114): object key, value, and the
stamp of the write. -/
structure Staged where
  key   : Nat
  value : Nat
  stamp : Nat
  deriving DecidableEq, Repr

/-- The states of the test access port controller (IEEE 1149.1). -/
inductive TapState where
  | testLogicReset | runTestIdle | selectDr | captureDr | shiftDr | exit1Dr | pauseDr | exit2Dr | updateDr
  | selectIr | captureIr | shiftIr | exit1Ir | pauseIr | exit2Ir | updateIr
  deriving DecidableEq, Repr

/-- The instructions of the test access port (Table 0-3). -/
inductive TapInstr where
  | bypass | samplePreload | extest | idcode
  deriving DecidableEq, Repr

/-- What the pins bring to the test access port: TRST_N goes low or high, a rising edge of TCK with TMS and TDI, or a falling edge of TCK
(Table 22-1). -/
inductive TapEdge where
  | trst (low : Bool)
  | tckRise (tms tdi : Bool)
  | tckFall
  deriving DecidableEq, Repr

/-- A step of a domain's power-up or power-down (R356): up, its switch closes, its SRAM is raised, its reset is applied and its clocks start, its
reset is released with its clamps; down, its clamps are set, its clocks stop, its reset is applied, its SRAM is lowered, its switch opens. -/
inductive PowerStep where
  | switchClosed | sramRaised | clocksStarted | clampsReleased | clampsSet | clocksStopped | resetApplied | sramLowered | switchOpened
  deriving DecidableEq, Repr

/-- The PARK image (R354): RW scalar values, RW DOMAIN values, Vexlink address and epoch, CAN address, EVENT_LATCHED, and
the zones open with cause HOST or FAULT. -/
structure ParkImage where
  vals    : List (Nat × Nat)
  doms    : List (Nat × List Byte)
  addr    : Option Nat
  epoch   : Nat
  canAddr : Nat
  latched : List Nat
  hostOpen  : List Nat
  faultOpen : List Nat
  stuckHold : List Nat
  stuckLook : List Nat
  logIndex  : List Nat
  stage     : Option (List Byte)
  stageCommit : Option Commit
  deriving DecidableEq, Repr

/-- A frame from its composition or render to its swap and display: its binding, its snapshot and its results (R12, R39, R69, R115, R160 to R165). Its fields are at their blank values in the DISPLAYED frame of code 0 that follows a reset -/
structure Frame where
  /-- kind of frame (R53). -/
  kind : FrameKind
  /-- the commit it shows, none for a refresh or fallback frame (R12). -/
  commit : Option Commit
  /-- its tag (R52). -/
  tag : Nat
  /-- its earliest-swap count E is FRAME_MAX_CYC (a maximum refresh), else FRAME_MIN_CYC (R51). -/
  eMax : Bool
  /-- how far its composition has come (R54). -/
  stage : FrameStage
  /-- count of staged writes accepted before its commit was bound (R114). -/
  stamp : Nat
  /-- the layers' bindings sampled at its start (R69). -/
  binds : List LayerBind
  /-- the layers as drawn in both passes (R69). -/
  layers : List LayerDraw
  /-- BG_LEVEL sampled (R69). -/
  bg : Nat
  /-- coefficient sets sampled (R69). -/
  filters : List (List Byte)
  /-- surface memory as the passes read it (R99). -/
  surfMem : List Host.Cell
  /-- the Campion snapshot, none for a native frame (R329). -/
  campion : Option CampionSnap
  /-- Gz of all zones in the snapshot (R39). -/
  gz : List Nat
  /-- calibration store (Gp, defect map) in the snapshot (R39). -/
  cal : List Host.Cell
  /-- ZONE_IREF in the snapshot (R32). -/
  iref : List Nat
  /-- the sense cadence of the snapshot (R40). -/
  n : Nat
  /-- the staged cadence that the snapshot took (R147). -/
  takenN : Option Nat
  /-- S of the snapshot (R40). -/
  sComp : Nat
  /-- the slot each zone will use after the swap (R163). -/
  slots : List Nat
  /-- KD_ENABLE of the frame (R114). -/
  kdEnable : Bool
  /-- host part of the box set (R115). -/
  hostBoxes : List Box
  /-- reflex part of the box set (R115). -/
  reflexBoxes : List Box
  /-- windows in WINDOW_BLANK when the pass began (R115). -/
  blanked : List Bool
  /-- signature windows of the frame (R114). -/
  wins : List Win
  /-- expected state in force for the frame (R123). -/
  expects : List SigExpect
  /-- ZONE_SUM (R87). -/
  sums : List Nat
  /-- occupancy counts (R161). -/
  occ : List (List Nat)
  /-- L (R163). -/
  limit : Nat
  /-- the rule that set L (R164). -/
  rule : Nat
  /-- module budget B used (R160). -/
  budget : Nat
  /-- PK used (R160). -/
  peak : Nat
  /-- region budgets used (R160). -/
  regions : List (Option Nat)
  /-- predicted power before L, mW (R162). -/
  predictedMw : Nat
  /-- predicted average current with L applied, uA (R153). -/
  iAvgUa : Nat
  /-- phases that its average current needs, I_AVG / 3.25 A rounded up (R153). -/
  phasesNeeded : Nat
  /-- CRC of each window over the codes written (EXPECT_SELF) (R125). -/
  sigSelf : List Nat
  /-- a watchdog failure has been looked at once (R205). -/
  restarted : Bool
  /-- rows substituted in its load pass (R62). -/
  mixedRows : List Nat
  /-- rows signalled complete, in ascending order (R89). -/
  rowsDone : Nat
  /-- surfaces in use by it (R99). -/
  surfaces : List Nat
  deriving DecidableEq, Repr

/-- Frame right after reset. -/
def Frame.reset : Frame where
  kind := .refresh
  commit := none
  tag := 0
  eMax := false
  stage := .statistics
  stamp := 0
  binds := []
  layers := []
  bg := 0
  filters := []
  surfMem := []
  campion := none
  gz := []
  cal := []
  iref := []
  n := 64
  takenN := none
  sComp := 33288
  slots := []
  kdEnable := true
  hostBoxes := []
  reflexBoxes := []
  blanked := []
  wins := []
  expects := []
  sums := []
  occ := []
  limit := 32768
  rule := 0
  budget := 0
  peak := 0
  regions := []
  predictedMw := 0
  iAvgUa := 0
  phasesNeeded := 0
  sigSelf := []
  restarted := false
  mixedRows := []
  rowsDone := 0
  surfaces := []

/-- Frames, scan-out and variable blanking (chapter 3) -/
structure Timing where
  /-- cycles served by the displayed frame (R51). -/
  served : Nat
  /-- TSTAMP of the latest global cycle boundary (R56). -/
  boundaryAt : Nat
  /-- the global PWM count at the latest boundary or zone cycle beginning (R26). -/
  count : Nat
  /-- the underrun of row slot 0 was handled with its boundary (R53). -/
  slotZero : Bool
  /-- EV005 (cause HELD) raised for the displayed frame (R51). -/
  heldRaised : Bool
  /-- LOAD_DONE (R48). -/
  loadDone : Bool
  /-- next row of the load pass in progress (R47). -/
  loadRow : Option Nat
  /-- the row the slot just ended loaded (R53). -/
  lastLoaded : Option Nat
  /-- work frame marked for reload (R61). -/
  reload : Bool
  /-- under-run rows of the load pass (R62). -/
  underruns : Nat
  /-- UNDERRUN_POLICY of the load pass (R65). -/
  passPolicy : Nat
  /-- LINE_MATCH_ROW of the load pass (R65). -/
  passMatchRow : Nat
  /-- both scan-out engines stopped by a divergence until the next boundary (R63). -/
  stopped : Bool
  /-- a divergence awaits its second look: its field, LEFT and RIGHT (R64). -/
  diverged : Option (Nat × Nat × Nat)
  /-- no divergence since the work frame's load pass began (R51). -/
  lockOk : Bool
  /-- FS1 holds the DISPLAYED role (R49). -/
  fs1Displayed : Bool
  /-- FRAME_COUNT (R52). -/
  frameCount : Nat
  /-- DISPLAYED_TAG (R52). -/
  displayedTag : Nat
  /-- FRAME_MIN_CYC in force (R66). -/
  minCyc : Nat
  /-- FRAME_MAX_CYC in force (R66). -/
  maxCyc : Nat
  /-- LINE_MATCH_ROW in force (R66). -/
  lineMatch : Nat
  /-- COMMIT_POLICY in force (R65). -/
  policy : Nat
  /-- UNDERRUN_POLICY in force (R65). -/
  underPolicy : Nat
  /-- the work frame (R49). -/
  work : Option Frame
  /-- the displayed frame (R49). -/
  disp : Frame
  /-- validated commits waiting to be bound (R54). -/
  toBind : List Commit
  /-- the pending slot (R54). -/
  pend : Option Commit
  /-- held refresh triggers (R59). -/
  held : List Trigger
  /-- the MAX trigger has been judged for the displayed frame (R59). -/
  maxFired : Bool
  /-- frame store bank FS0 (R88). -/
  bank0 : List Host.Cell
  /-- frame store bank FS1 (R88). -/
  bank1 : List Host.Cell
  /-- shadow latches by row (R23). -/
  shadow : List (Nat × List Nat)
  /-- active latches by row (R23). -/
  active : List (Nat × List Nat)
  /-- staged AT_APPLY_ROW values (R66). -/
  staged : List Staged
  deriving DecidableEq, Repr

/-- Timing right after reset. -/
def Timing.reset : Timing where
  served := 0
  boundaryAt := 0
  count := 0
  slotZero := false
  heldRaised := false
  loadDone := false
  loadRow := none
  lastLoaded := none
  reload := false
  underruns := 0
  passPolicy := 0
  passMatchRow := 256
  stopped := false
  diverged := none
  lockOk := true
  fs1Displayed := false
  frameCount := 0
  displayedTag := 0
  minCyc := 20
  maxCyc := 80
  lineMatch := 256
  policy := 0
  underPolicy := 0
  work := none
  disp := Frame.reset
  toBind := []
  pend := none
  held := []
  maxFired := false
  bank0 := []
  bank1 := []
  shadow := []
  active := []
  staged := []

/-- What the compositor keeps for one layer between passes (R81 to R86) -/
structure LayerState where
  /-- LAYER_STATUS STATE (R85). -/
  phase : LayerPhase
  /-- LAST_CAUSE (R85). -/
  cause : NrCause
  /-- NR_COUNT (R83). -/
  nrCount : Nat
  /-- judged at the previous statistics pass while enabled (R85). -/
  judged : Bool
  /-- action taken in the run of not-ready passes (R85). -/
  action : Nat
  /-- binding judged at the previous statistics pass (R85). -/
  lastBind : Option LayerBind
  /-- last good binding (R83). -/
  lastGood : Option LayerDraw
  /-- its surface has not been written since (R83). -/
  lastGoodFresh : Bool
  /-- enabled with SRC_W above 1024 at its previous statistics pass (R81). -/
  lbWide : Bool
  /-- a statistics pass since reset has judged it (R85). -/
  seen : Bool
  deriving DecidableEq, Repr

/-- LayerState right after reset. -/
def LayerState.reset : LayerState where
  phase := .disabled
  cause := .none
  nrCount := 0
  judged := false
  action := 0
  lastBind := none
  lastGood := none
  lastGoodFresh := false
  lbWide := false
  seen := false

/-- Composition engine (chapter 4) and Campion (chapter 16) -/
structure Composer where
  /-- per-layer status (R85). -/
  layers : List LayerState
  /-- the compositor is held in reset (R218). -/
  inReset : Bool
  /-- published ZONE_SUM, empty until a pass completes (R87). -/
  zoneSums : List Nat
  /-- tag published with ZONE_SUM (R87). -/
  zoneSumTag : Nat
  /-- MON_SEQ (R260). -/
  monSeq : Nat
  /-- last complete monitor copy (R90). -/
  monitor : List Nat
  /-- FRAME_COUNT of the readable copy (R90). -/
  monFrame : Nat
  /-- DISPLAYED_TAG of the readable copy (R90). -/
  monTag : Nat
  /-- copy being formed: FRAME_COUNT, tag and bank (true for FS1) (R90). -/
  monForming : Option (Nat × Nat × Bool)
  /-- COMPAT_ENABLE in force (R331). -/
  campionOn : Bool
  /-- Campion commits bound (R332). -/
  campionCommits : Nat
  /-- native commits withdrawn (R332). -/
  withdrawn : Nat
  /-- native commits refused (R332). -/
  refusedNative : Nat
  /-- number of the image in Campion's buffer, 255 before a load (R327). -/
  imgIndex : Nat
  /-- Campion's image buffer (R327). -/
  imgData : List Byte
  /-- STAGED_UNBOUND: something is staged that no Campion commit has taken (R332). -/
  unbound : Bool
  /-- the snapshot of the latest Campion composition (COMPAT_STATUS) (R326). -/
  shown : Option CampionSnap
  deriving DecidableEq, Repr

/-- Composer right after reset. -/
def Composer.reset : Composer where
  layers := (List.replicate 8 LayerState.reset)
  inReset := false
  zoneSums := []
  zoneSumTag := 0
  monSeq := 0
  monitor := []
  monFrame := 0
  monTag := 0
  monForming := none
  campionOn := false
  campionCommits := 0
  withdrawn := 0
  refusedNative := 0
  imgIndex := 255
  imgData := []
  unbound := false
  shown := none

/-- One surface beside its descriptor objects (R92, R98 to R103) -/
structure Surface where
  /-- state (R98). -/
  phase : SurfPhase
  /-- LAST_ERROR (R102). -/
  lastError : Nat
  /-- DECODE_FAULT (R109). -/
  decodeFault : Bool
  /-- tile number of the decode fault (R109). -/
  decodeTile : Nat
  /-- distinct rows written (ROWS_DONE counts them) (R101). -/
  rows : List Nat
  /-- GEN (R100). -/
  gen : Nat
  /-- SEAL_ACTUAL (R100). -/
  sealActual : Nat
  /-- broadcast flag, SEQ and TYPE of the packet whose answer waits for the verification (R258). -/
  answer : Option (Bool × Nat × Nat)
  /-- checks whose first look failed (LAST_ERROR values), with the check value it formed where the check has one (R102). -/
  looks : List (Nat × Option Nat)
  /-- a scrub mismatch awaits its second look: the check value it read (R103). -/
  scrubLook : Option Nat
  /-- retained through PARK and not checked yet (R103). -/
  needsCheck : Bool
  /-- where the write ended that left its last row in part, from that row's first byte on (R101). -/
  partEnd : Option Nat
  deriving DecidableEq, Repr

/-- Surface right after reset. -/
def Surface.reset : Surface where
  phase := .empty
  lastError := 0
  decodeFault := false
  decodeTile := 0
  rows := []
  gen := 0
  sealActual := 0
  answer := none
  looks := []
  scrubLook := none
  needsCheck := false
  partEnd := none

/-- Surface memory (chapter 5) -/
structure SurfMem where
  /-- surface memory, byte addressed (R92). -/
  mem : List Host.Cell
  /-- surfaces (R92). -/
  surf : List Surface
  /-- write queue (R99). -/
  queue : List Held
  /-- SURF_QUEUE_PEAK (R319). -/
  queuePeak : Nat
  /-- items that wait for room in the write queue, in arrival order (R99). -/
  waiting : List Waiting
  deriving DecidableEq, Repr

/-- SurfMem right after reset. -/
def SurfMem.reset : SurfMem where
  mem := []
  surf := List.replicate 64 Surface.reset
  queue := []
  queuePeak := 0
  waiting := []

/-- A signature window's results (Table 6-4) -/
structure WindowState where
  /-- expected state in force for the next composition (R123). -/
  expect : SigExpect
  /-- SIG_ACTUAL (R319). -/
  actual : Nat
  /-- SIG_STATE (R319). -/
  phase : SigPhase
  /-- SIG_TRANSIENT_COUNT (R125). -/
  transients : Nat
  /-- the window is in WINDOW_BLANK (R126). -/
  isBlanked : Bool
  deriving DecidableEq, Repr

/-- WindowState right after reset. -/
def WindowState.reset : WindowState where
  expect := ⟨false, false, 0⟩
  actual := 0
  phase := .idle
  transients := 0
  isBlanked := false

/-- A reflex slot (R119) -/
structure ReflexSlot where
  /-- holds a box (R119). -/
  used : Bool
  /-- detected rectangle, left bin (R119). -/
  u0 : Nat
  /-- detected rectangle, top bin (R119). -/
  w0 : Nat
  /-- detected rectangle, right bin (R119). -/
  u1 : Nat
  /-- detected rectangle, bottom bin (R119). -/
  w1 : Nat
  /-- dilation of its box (R118). -/
  dilate : Nat
  /-- TSTAMP of the last map that matched it (R119). -/
  matched : Nat
  deriving DecidableEq, Repr

/-- ReflexSlot right after reset. -/
def ReflexSlot.reset : ReflexSlot where
  used := false
  u0 := 0
  w0 := 0
  u1 := 0
  w1 := 0
  dilate := 0
  matched := 0

/-- Keep-dark boxes, reflex dimming, signature windows and the guard checker (chapter 6) -/
structure Glare where
  /-- host box set of the last frame started by a commit (R110). -/
  hostBoxes : List Box
  /-- window settings of the last frame started by a commit (R114). -/
  wins : List Win
  /-- KD_ENABLE of the last frame started by a commit (R114). -/
  kdEnable : Bool
  /-- staged commit-carried values (R114). -/
  staged : List Staged
  /-- window states (R123). -/
  windows : List WindowState
  /-- reflex slots (R119). -/
  slots : List ReflexSlot
  /-- OVERFLOW_COUNT (R119). -/
  overflow : Nat
  /-- the previous map used step 4 (R120). -/
  overflowRun : Bool
  /-- a published map has not been processed yet (R120). -/
  mapWaiting : Bool
  /-- REFLEX_THRESH_ON, REFLEX_THRESH_OFF, REFLEX_ROI, REFLEX_MIN_BINS, REFLEX_DILATE_PX, REFLEX_HOLD_MS and REFLEX_MAX_BOXES in force for the waiting map (R117). -/
  mapParams : List Nat
  /-- KD_TRANSIENT_COUNT (R129). -/
  kdTransients : Nat
  /-- a guard pass is in progress (R128). -/
  guardRunning : Bool
  /-- boxes to be reread: source, slot, count of violating pixels at the first look (R129). -/
  guardLooks : List (Nat × Nat × Nat)
  /-- CODE windows to be reread and the value of their first look (R125). -/
  sigLooks : List (Nat × Nat)
  /-- INTENSITY windows whose second look is pending, with the value of their first look (R125). -/
  intLooks : List (Nat × Nat)
  /-- SUM_DISP of the displayed frame, empty until the guard pass ends (R166). -/
  sumDisp : List Nat
  deriving DecidableEq, Repr

/-- Glare right after reset. -/
def Glare.reset : Glare where
  hostBoxes := List.replicate 32 Box.off
  wins := List.replicate 16 ⟨0, 0, 0, 0, 0⟩
  kdEnable := true
  staged := []
  windows := List.replicate 16 WindowState.reset
  slots := List.replicate 16 ReflexSlot.reset
  overflow := 0
  overflowRun := false
  mapWaiting := false
  mapParams := []
  kdTransients := 0
  guardRunning := false
  guardLooks := []
  sigLooks := []
  intLooks := []
  sumDisp := []

/-- A probe record (Table 7-3) -/
structure ProbeRec where
  /-- VF (R137). -/
  vf : Nat
  /-- DARK (R137). -/
  dark : Nat
  /-- RATIO (R137). -/
  ratio : Nat
  /-- N_H (R137). -/
  nH : Nat
  /-- N_V (R137). -/
  nV : Nat
  /-- flag bits set (R138). -/
  flags : List Nat
  /-- DEFECT (R137). -/
  defect : Nat
  deriving DecidableEq, Repr

/-- ProbeRec right after reset. -/
def ProbeRec.reset : ProbeRec where
  vf := 0
  dark := 0
  ratio := 0
  nH := 0
  nV := 0
  flags := []
  defect := 0

/-- Teasel (chapter 7) -/
structure Sense where
  /-- cadence in force (R147). -/
  n : Nat
  /-- staged SENSE_INTERVAL_CYC (R147). -/
  stagedN : Option Nat
  /-- sensing has started (first swap in LIT or FALLBACK) (R130). -/
  started : Bool
  /-- cycles since the beginning of the previous sense cycle, or since the starting boundary (R130). -/
  since : Nat
  /-- a sense cycle is in progress (R131). -/
  inCycle : Bool
  /-- the cells' mode (R24). -/
  cells : CellPhase
  /-- results of the cycle in progress are discarded (R148). -/
  discard : Bool
  /-- pattern of the latest sense cycle (R132). -/
  pattern : Nat
  /-- next pattern of the sequence (R132). -/
  next : Nat
  /-- the cycle in progress repeats a pattern (R139). -/
  repeating : Bool
  /-- the next sense cycle repeats the pattern (R139). -/
  repeatNext : Bool
  /-- first discarded pattern (R148). -/
  resumeAt : Option Nat
  /-- SWEEP_COUNT (R139). -/
  sweeps : Nat
  /-- REPEAT_COUNT (R139). -/
  repeats : Nat
  /-- repeats run in the sweep (R424). -/
  sweepRepeats : Nat
  /-- the cycle in progress completes the sweep (R139). -/
  sweepEnds : Bool
  /-- PATTERN_SEQ (R143). -/
  seq : Nat
  /-- TSTAMP of the sense cycle's start (R143). -/
  started_at : Nat
  /-- calibration store (defect map) at the start of the latest sense cycle (R133). -/
  calStart : List Host.Cell
  /-- PATTERN_SEQ in the published header (R143). -/
  recSeq : Nat
  /-- TSTAMP in the published PROBE_RESULTS header (R143). -/
  recTstamp : Nat
  /-- PATTERN in the published header (R143). -/
  recPattern : Nat
  /-- FLAGS in the published header (R143). -/
  recFlags : Nat
  /-- records of the last completed pattern (R143). -/
  records : List ProbeRec
  /-- screening limits of the cycle in progress (R143). -/
  screens : List Nat
  /-- ZONE_LUM formed in the cycle in progress (R140). -/
  lum : List (Option Nat)
  /-- ZONE_VF formed in the cycle in progress (R140). -/
  vf : List (Option Nat)
  /-- published ZONE_LUM (R140). -/
  pubLum : List (Option Nat)
  /-- published ZONE_VF (R140). -/
  pubVf : List (Option Nat)
  /-- published ZONE_VF_SWEEP (R141). -/
  pubVfSweep : List (Option Nat)
  /-- per pattern, its zones' sums of vf01 and counts of qualifying probes at its latest look (R141). -/
  sweepVf : List (Nat × List (Nat × Nat))
  /-- zones whose ADC reference failed its first look, and the reading (R142). -/
  adcLook : List (Nat × Nat)
  /-- zones whose ADC is faulty (R142). -/
  adcFaulty : List Nat
  /-- zones whose ADC failed its check in the cycle in progress (R142). -/
  adcBad : List Nat
  /-- map of the cycle in progress (R144). -/
  mapNew : Option (List Nat)
  /-- published map (R145). -/
  map : List Nat
  /-- MAP_SEQ (R145). -/
  mapSeq : Nat
  /-- TSTAMP of the published map (R145). -/
  mapTstamp : Nat
  /-- N in force of the published map (R145). -/
  mapN : Nat
  /-- FLAGS of the published map (R145). -/
  mapFlags : Nat
  /-- MAP_SEQ of the published map, 0 while none is published (R145). -/
  mapShown : Nat
  /-- the next map is the first after a change of cadence (R149). -/
  mapFirst : Bool
  /-- IREF under which the probes of the latest cycle were pulsed (R157). -/
  irefSensed : List Nat
  /-- EV036 raised for the present interval without sensing (R150). -/
  unavailRaised : Bool
  deriving DecidableEq, Repr

/-- Sense right after reset. -/
def Sense.reset : Sense where
  n := 64
  stagedN := none
  started := false
  since := 0
  inCycle := false
  cells := .dark
  discard := false
  pattern := 0
  next := 0
  repeating := false
  repeatNext := false
  resumeAt := none
  sweeps := 0
  repeats := 0
  sweepRepeats := 0
  sweepEnds := false
  seq := 0
  started_at := 0
  calStart := []
  recSeq := 0
  recTstamp := 0
  recPattern := 0
  recFlags := 0
  records := []
  screens := [2458, 5734, 500, 300, 125]
  lum := []
  vf := []
  pubLum := List.replicate 512 none
  pubVf := List.replicate 512 none
  pubVfSweep := List.replicate 512 none
  sweepVf := []
  adcLook := []
  adcFaulty := []
  adcBad := []
  mapNew := none
  map := []
  mapSeq := 0
  mapTstamp := 0
  mapN := 0
  mapFlags := 0
  mapShown := 0
  mapFirst := true
  irefSensed := []
  unavailRaised := false

/-- One VLED phase (R151, R156) -/
structure Phase where
  /-- ON (R151). -/
  on : Bool
  /-- in rotation (R156). -/
  healthy : Bool
  /-- order in which it was turned ON (R152). -/
  onSeq : Nat
  /-- the last 128 samples, newest first: at the cycle-by-cycle limit (R156). -/
  limits : List Bool
  /-- second look of the limit condition pending: samples since, and the count that failed the first (R156). -/
  limitLook : Option (Nat × Nat)
  /-- second look of the start condition pending: samples since (R156). -/
  startLook : Option Nat
  deriving DecidableEq, Repr

/-- Phase right after reset. -/
def Phase.reset : Phase where
  on := false
  healthy := true
  onSeq := 0
  limits := []
  limitLook := none
  startLook := none

/-- VLED rail, headroom, limiter outputs, injection and capture (chapter 8) -/
structure Supply where
  /-- V_SET, mV (R157). -/
  vset : Nat
  /-- V_SET before the injected signal, mV (R178). -/
  vbase : Nat
  /-- V_SET before the latest pass of the headroom loop, mV (R177). -/
  vsetPrev : Nat
  /-- V_SET before that pass and before the injected signal, mV (R177). -/
  vbasePrev : Nat
  /-- VLED of the latest sample, mV (R152). -/
  vled : Nat
  /-- VLED is on (R155). -/
  vledOn : Bool
  /-- soft start in progress (R155). -/
  softStart : Bool
  /-- TSTAMP at which the soft start began (R155). -/
  softAt : Nat
  /-- VLED turns off once every zone switch is open (R155). -/
  offDue : Bool
  /-- the latest seeding of the gains read GZ_STORE (model R173). -/
  gzRead : Bool
  /-- EMIT has stayed powered since the module was last in LIT or FALLBACK (R173). -/
  gzHeld : Bool
  /-- a headroom loop was left unfinished in a cycle with no gain period since the latest gain period (R177). -/
  overSeen : Bool
  /-- zone from which the next gain period starts (R177). -/
  zoneStart : Nat
  /-- consecutive overrun periods (R177). -/
  overruns : Nat
  /-- consecutive periods without overrun (R177). -/
  cleanRuns : Nat
  /-- the zone loops act on every second gain period (R177). -/
  halfRate : Bool
  /-- a sense cycle has ended and the gain period of its results is to come (R167). -/
  gainDue : Bool
  /-- phases PH0 to PH5 (R151). -/
  phases : List Phase
  /-- phase turned ON most recently (R152). -/
  lastOn : Nat
  /-- count of ON commands (R152). -/
  onSeq : Nat
  /-- following-error timer running (R159). -/
  feRunning : Bool
  /-- consecutive samples within the limit (R159). -/
  feGood : Nat
  /-- peak magnitude of e in the excursion, mV (R159). -/
  fePeak : Nat
  /-- sign of the peak: VLED above V_SET (R159). -/
  feAbove : Bool
  /-- TRANSIENT following errors (R159). -/
  feTransients : Nat
  /-- TRANSIENT phase looks (R156). -/
  phaseTransients : Nat
  /-- headroom target, mV (R157). -/
  target : Nat
  /-- cycles for which the headroom shortage has been absent (R158). -/
  hsAbsent : Nat
  /-- zones short of headroom in the latest cycle (R322). -/
  hsZones : List Nat
  /-- EV049 raised and not released (R165). -/
  limiterActive : Bool
  /-- overvoltage hold (R413). -/
  ovHold : Bool
  /-- P_meas of a failed first look, mW (R166). -/
  pmeasLook : Option Nat
  /-- TSTAMP at which SAFE_DARK with cause SUPERVISOR was last left (R209). -/
  feLeft : Option Nat
  /-- a second VLED following error under Table 10-4 (R210). -/
  feSecond : Bool
  /-- injection runs (R178). -/
  injecting : Bool
  /-- START accepted, injection begins at the next sample period (R178). -/
  injArmed : Bool
  /-- sample periods of injection run (R178). -/
  injCount : Nat
  /-- injected signal (R178). -/
  injU : Int
  /-- zone to whose Gz a signal is added, and the signal (R178). -/
  injAt : Option (Nat × Int)
  /-- PRBS-9 register (R178). -/
  prbs : Nat
  /-- capture in progress (R180). -/
  capRunning : Bool
  /-- CAP_STATUS STATE (R324). -/
  capState : Nat
  /-- CAP_SEQ (R180). -/
  capSeq : Nat
  /-- sample periods since the last sample (R180). -/
  capDecim : Nat
  /-- samples taken (R324). -/
  capTaken : Nat
  /-- TSTAMP of the first sample (R180). -/
  capStart : Nat
  /-- samples of the capture in progress, newest first (R180). -/
  capSamples : List (List Byte)
  /-- CAPTURE (R180). -/
  capture : List Byte
  /-- sum of VLED samples in the sample period (R180). -/
  vledSum : Nat
  /-- count of VLED samples in the sample period (R180). -/
  vledCnt : Nat
  /-- least VLED sample in the sample period (R180). -/
  vledMin : Nat
  deriving DecidableEq, Repr

/-- Supply right after reset. -/
def Supply.reset : Supply where
  vset := 0
  vbase := 0
  vsetPrev := 0
  vbasePrev := 0
  vled := 0
  vledOn := false
  softStart := false
  softAt := 0
  offDue := false
  gzRead := false
  gzHeld := false
  overSeen := false
  zoneStart := 0
  overruns := 0
  cleanRuns := 0
  halfRate := false
  gainDue := false
  phases := List.replicate 6 Phase.reset
  lastOn := 5
  onSeq := 0
  feRunning := false
  feGood := 0
  fePeak := 0
  feAbove := false
  feTransients := 0
  phaseTransients := 0
  target := 2900
  hsAbsent := 64
  hsZones := []
  limiterActive := false
  ovHold := false
  pmeasLook := none
  feLeft := none
  feSecond := false
  injecting := false
  injArmed := false
  injCount := 0
  injU := 0
  injAt := none
  prbs := 511
  capRunning := false
  capState := 0
  capSeq := 0
  capDecim := 0
  capTaken := 0
  capStart := 0
  capSamples := []
  capture := []
  vledSum := 0
  vledCnt := 0
  vledMin := 65535

/-- One zone: switch, current monitor, luminance loop (R26 to R36, R167 to R175) -/
structure Zone where
  /-- switch closed (R33). -/
  closed : Bool
  /-- causes that hold the zone open (R35). -/
  causes : List OpenCause
  /-- an ORDERLY opening is pending (R33). -/
  openAtCycle : Bool
  /-- TSTAMP at which the switch last opened (R134). -/
  openedAt : Nat
  /-- scheduled to close (R34). -/
  closing : Bool
  /-- granted a closing in this PWM cycle (R34). -/
  closeGrant : Bool
  /-- held open under R203 (R203). -/
  stuckHold : Bool
  /-- opened ORDERLY by a first look of STUCK_ON inside an active box (R203). -/
  stuckLook : Bool
  /-- DEGRADED (R175). -/
  degraded : Bool
  /-- phase slot in use (R26). -/
  slot : Nat
  /-- phase slot taken at its next cycle beginning (R30). -/
  newSlot : Option Nat
  /-- its cycle in progress is stretched (R30). -/
  stretched : Bool
  /-- PIXCLK periods of its cycle in progress (R30). -/
  length : Nat
  /-- global cycle boundaries since its cycle in progress began (R26). -/
  laps : Nat
  /-- Gz (R167). -/
  gz : Nat
  /-- Gz in the latest GZ_STORE (R173). -/
  stored : Nat
  /-- active gain source is LUM, else CAL (R170). -/
  lumSource : Bool
  /-- LOOP_MODE (R322). -/
  mode : Nat
  /-- sweeps until ACQUIRE ends (R174). -/
  sweepsLeft : Nat
  /-- sense cycles since ZONE_LUM was last valid, at most 8 (R170). -/
  lumValid : Nat
  /-- a hand-over was refused and is not evaluated until its next occasion (R171). -/
  refused : Bool
  /-- the source a refused hand-over asked for (R171). -/
  wantLum : Bool
  /-- RHO (R168). -/
  rho : Nat
  /-- following-error timer, in 0.1 us (R175). -/
  feTimer : Nat
  /-- RHO at the start of the run of the following-error timer (R175). -/
  feFirst : Nat
  /-- a run of the following-error timer is in progress and has not raised EV052 (R175). -/
  fePending : Bool
  /-- TRANSIENT following errors (R175). -/
  transients : Nat
  /-- sensing was available for the zone when it was judged last (R174). -/
  hadSense : Bool
  /-- the zone's ZONE_VF has been delivered since sensing became available for it (R157). -/
  vfFresh : Bool
  /-- at half rate the zone's loop skips its next gain period (R177). -/
  skipNext : Bool
  /-- PWM cycles since the boundary at which sensing became unavailable for the zone, less whole gain periods (R167). -/
  away : Option Nat
  /-- a gain period of 64 PWM cycles has ended for the zone (R167). -/
  awayDue : Bool
  /-- last 16 unmarked current samples, uA, newest first (R36). -/
  samples : List Nat
  /-- sum of eligible samples in the displayed frame, uA (R204). -/
  eligSum : Nat
  /-- count of eligible samples in the displayed frame (R204). -/
  eligCnt : Nat
  /-- a whole open cycle of the displayed frame has been sampled (R204). -/
  openSeen : Bool
  /-- largest sample of such a cycle, uA (R204). -/
  openMax : Nat
  /-- the zone cycle in progress began in the displayed frame (R204). -/
  whole : Bool
  /-- switch closed since the zone cycle began (R204). -/
  closedWhole : Bool
  /-- switch open since the zone cycle began (R204). -/
  openWhole : Bool
  /-- the zone cycle in progress overlaps a sense window (R36). -/
  marked : Bool
  /-- I_meas of a failed first look of the NORMAL case, uA (R204). -/
  lookNormal : Option Nat
  /-- sample of a failed first look of the OPEN_SWITCH case, uA (R204). -/
  lookOpen : Option Nat
  deriving DecidableEq, Repr

/-- Zone right after reset. -/
def Zone.reset : Zone where
  closed := false
  causes := [.reset]
  openAtCycle := false
  openedAt := 0
  closing := false
  closeGrant := false
  stuckHold := false
  stuckLook := false
  degraded := false
  slot := 0
  newSlot := none
  stretched := false
  length := 4096
  laps := 0
  gz := 16384
  stored := 16384
  lumSource := false
  mode := 0
  sweepsLeft := 2
  lumValid := 8
  refused := false
  wantLum := false
  rho := 0
  feTimer := 0
  feFirst := 0
  fePending := false
  transients := 0
  hadSense := false
  vfFresh := false
  skipNext := false
  away := none
  awayDue := false
  samples := []
  eligSum := 0
  eligCnt := 0
  openSeen := false
  openMax := 0
  whole := false
  closedWhole := false
  openWhole := false
  marked := false
  lookNormal := none
  lookOpen := none

/-- A zone's temperature estimate (R183 to R189) -/
structure ZoneTemp where
  /-- MODE (R185). -/
  mode : TempMode
  /-- REASON (R187). -/
  reason : Nat
  /-- estimate in force (R185). -/
  t10 : Int
  /-- last valid value (R185). -/
  lastT : Int
  /-- diode reading of the half when it was taken (R185). -/
  tdLast : Int
  /-- near (R182). -/
  near : Bool
  /-- consecutive samples below the release level (R182). -/
  below : Nat
  /-- sweeps left in which a valid estimate must come (R185). -/
  sweepsLeft : Nat
  /-- value of an implausible first look that awaits its second (R187). -/
  look : Option Int
  /-- value of a shutdown first look that awaits its second (R194). -/
  shutLook : Option Int
  /-- a new sweep has ended since it became INVALID (R187). -/
  newSweep : Bool
  /-- while INVALID: T_last, where it counts beside the too-hot value (R189). -/
  floor : Option Int
  /-- it was INVALID when it went STALE (R187). -/
  wasInvalid : Bool
  /-- its estimates, newest first (R195). -/
  hist : List Int
  deriving DecidableEq, Repr

/-- ZoneTemp right after reset. -/
def ZoneTemp.reset : ZoneTemp where
  mode := .stale
  reason := 0
  t10 := 0
  lastT := 0
  tdLast := 0
  near := false
  below := 0
  sweepsLeft := 2
  look := none
  shutLook := none
  newSweep := false
  floor := none
  wasInvalid := false
  hist := []

/-- A reference diode TD0 to TD3 (R181 to R189) -/
structure Diode where
  /-- value in force (R181). -/
  t10 : Int
  /-- latest raw reading (R186). -/
  raw : Int
  /-- VALID (R187). -/
  valid : Bool
  /-- reason of INVALID (R187). -/
  reason : Nat
  /-- near (R182). -/
  near : Bool
  /-- consecutive samples below the release level (R182). -/
  below : Nat
  /-- consecutive plausible samples while INVALID (R187). -/
  good : Nat
  /-- value of an implausible first look that awaits its second (R187). -/
  look : Option Int
  /-- value of a shutdown first look that awaits its second (R194). -/
  shutLook : Option Int
  /-- last valid value (R189). -/
  lastValid : Int
  /-- while INVALID: T_last, where it counts beside the too-hot value (R189). -/
  floor : Option Int
  /-- preceding samples, newest first (R195). -/
  hist : List Int
  deriving DecidableEq, Repr

/-- Diode right after reset. -/
def Diode.reset : Diode where
  t10 := 250
  raw := 250
  valid := true
  reason := 0
  near := false
  below := 0
  good := 0
  look := none
  shutLook := none
  lastValid := 250
  floor := none
  hist := []

/-- A thermal region (R190 to R193) -/
structure Region where
  /-- F_r (R191). -/
  f : Nat
  /-- P_ref, 0.1 W (R192). -/
  pref : Nat
  /-- inputs INVALID since they set T_r while throttling (zone z as z, diode k as 512 + k), and the F_r that may not be exceeded (R189). -/
  caps : List (Nat × Nat)
  /-- input that set T_r at the last sample (R189). -/
  topInput : Option Nat
  deriving DecidableEq, Repr

/-- Region right after reset. -/
def Region.reset : Region where
  f := 32768
  pref := 0
  caps := []
  topInput := none

/-- Thermal supervisor (chapter 9) -/
structure Thermal where
  /-- TD0 to TD3 (R181). -/
  diodes : List Diode
  /-- zone estimates (R185). -/
  zones : List ZoneTemp
  /-- regions (R190). -/
  regions : List Region
  /-- EV065 raised and not released (R193). -/
  derating : Bool
  /-- TRANSIENT plausibility results (R187). -/
  plausTransients : Nat
  /-- TRANSIENT shutdown results (R194). -/
  shutTransients : Nat
  /-- SHUTDOWN_CAUSE (R324). -/
  shutCause : Nat
  /-- kinds of the shutdowns since the module was last lit: EMITTER (1), CONTROLLER (2) (R196). -/
  shutKinds : List Nat
  /-- RESTART (R324). -/
  restart : Nat
  /-- F_16 held at no more than 16,384 (R196). -/
  fbHold : Bool
  /-- shutdown records waiting to be written, oldest first (R195). -/
  records : List (List Byte)
  /-- SEQ of the next shutdown record (R195). -/
  recSeq : Nat
  /-- controller shutdown: only AON and MGMT powered (R194). -/
  ctrlOff : Bool
  deriving DecidableEq, Repr

/-- Thermal right after reset. -/
def Thermal.reset : Thermal where
  diodes := List.replicate 4 Diode.reset
  zones := List.replicate 512 ZoneTemp.reset
  regions := List.replicate 17 Region.reset
  derating := false
  plausTransients := 0
  shutTransients := 0
  shutCause := 0
  shutKinds := []
  restart := 0
  fbHold := false
  records := []
  recSeq := 0
  ctrlOff := false

/-- Volley counts, pixel defects, health, fallback beam (chapter 10) -/
structure Faults where
  /-- TRANSIENT_COUNTS (R197). -/
  counts : List Nat
  /-- TRANSIENT results of the last second: check, TSTAMP (R199). -/
  recent : List (Nat × Nat)
  /-- TSTAMP of the last EV088 per check (R199). -/
  storms : List (Nat × Nat)
  /-- pixels whose finding awaits its second look (R201). -/
  looks : List (Nat × Finding)
  /-- CROSS_LIST, pixel indexes (R202). -/
  cross : List Nat
  /-- CROSS entries not stored (R202). -/
  crossOver : Nat
  /-- VF anomalies (R200). -/
  vfAnomalies : Nat
  /-- MOD_HEALTH (R210). -/
  health : Nat
  /-- HEALTH_REASON bits (R323). -/
  reasons : List Nat
  /-- FAULT_N asserted (R211). -/
  faultN : Bool
  /-- FAULT_ACK written since the assertion (R211). -/
  faultAcked : Bool
  /-- a ZONE_BLANK or SAFE_DARK reaction to a fault of severity 2 or more is in force (R211). -/
  reactions : List Nat
  /-- causes of the fallback beam recorded (R218). -/
  fbCauses : List FbCause
  /-- FB_STATUS IMAGE (R324). -/
  fbImage : Nat
  /-- render count (R324). -/
  renders : Nat
  /-- TSTAMP of the last render (R324). -/
  lastRender : Nat
  /-- a render trigger is held (R217). -/
  renderHeld : Bool
  /-- budgets the latest render used (R217). -/
  renderBudgets : List Nat
  /-- a render is in progress or its frame has not swapped (R217). -/
  renderOn : Bool
  /-- the host is present (R220). -/
  hostPresent : Bool
  /-- TSTAMP of the latest host heartbeat (R220). -/
  beat : Option Nat
  /-- TSTAMP of the latest host-sourced packet consumed (R220). -/
  packet : Option Nat
  /-- upstream lock has been lost for VX_LOSS_MS (R220). -/
  upLost : Bool
  /-- EV101 raised since the host was last present (R220). -/
  hostLostRaised : Bool
  /-- the one attempt at the fallback beam has been made (R209). -/
  limpTried : Bool
  /-- no usable fallback image was found (R210). -/
  wbNoImage : Bool
  deriving DecidableEq, Repr

/-- Faults right after reset. -/
def Faults.reset : Faults where
  counts := List.replicate 17 0
  recent := []
  storms := []
  looks := []
  cross := []
  crossOver := 0
  vfAnomalies := 0
  health := 0
  reasons := []
  faultN := false
  faultAcked := false
  reactions := []
  fbCauses := []
  fbImage := 255
  renders := 0
  lastRender := 0
  renderHeld := false
  renderBudgets := []
  renderOn := false
  hostPresent := false
  beat := none
  packet := none
  upLost := false
  hostLostRaised := false
  limpTried := false
  wbNoImage := false

/-- One physical upstream lane (R234 to R236) -/
structure Lane where
  /-- aligned (R234). -/
  aligned : Bool
  /-- tries (R234). -/
  tries : Nat
  /-- POL_INV (R234). -/
  polInv : Bool
  /-- COMMA_POS (R324). -/
  commaPos : Option Nat
  /-- BITSLIP commands given (R234). -/
  slips : Nat
  /-- DESKEW_CHARS (R235). -/
  deskew : Nat
  /-- logical lane (R236). -/
  logical : Option Nat
  /-- character errors (R239). -/
  errors : Nat
  deriving DecidableEq, Repr

/-- Lane right after reset. -/
def Lane.reset : Lane where
  aligned := false
  tries := 0
  polInv := false
  commaPos := none
  slips := 0
  deskew := 0
  logical := none
  errors := 0

/-- Vexlink lanes, packets and the chain (chapters 11 and 12) -/
structure Vex where
  /-- receiver state (R233). -/
  rx : RxState
  /-- receiver lane state (R241). -/
  rxLane : LaneState
  /-- transmitter lane state (R241). -/
  txLane : LaneState
  /-- physical lanes (R234). -/
  lanes : List Lane
  /-- LAST_FAIL (R233). -/
  lastFail : Nat
  /-- EV102 raised in this run of failures (R233). -/
  failRun : Bool
  /-- the receiver waits 100 us before LOCK (R233). -/
  retryDue : Bool
  /-- upstream lock lost and not UP since (R240). -/
  lost : Bool
  /-- VX_LOSS_MS has expired in this loss (R240). -/
  lostTimed : Bool
  /-- TRANSIENT losses (R240). -/
  losses : Nat
  /-- the receiver relocks after a wake burst (R244). -/
  wakeLock : Bool
  /-- the transmitter restarts at a new setting (R246). -/
  restart : Bool
  /-- ring address (R265). -/
  addr : Option Nat
  /-- epoch (R265). -/
  epoch : Nat
  /-- SEQ counter (R248). -/
  seq : Nat
  /-- last unicast SEQ values accepted (R269). -/
  dupUni : List Nat
  /-- last broadcast SEQ values accepted (R269). -/
  dupBro : List Nat
  /-- answers by broadcast flag and SEQ (R269). -/
  answers : List (Bool × Nat × OwnPacket)
  /-- packet-CRC second looks pending: broadcast flag, epoch, SEQ and the first look's CRC (R268). -/
  crcLooks : List (Bool × Nat × Nat × Nat)
  /-- character errors that the stream brings outside packets, waiting, by physical lane, oldest first (model R239). -/
  charErrors : List (Fin 4)
  /-- CR_TOTAL (R267). -/
  crTotal : Nat
  /-- what waits to be sent as own packets, oldest first (R253). -/
  own : List OwnItem
  /-- last own packets, and whether each was retransmitted (R270). -/
  copies : List (SentPacket × Bool)
  /-- retransmissions waiting (R270). -/
  retx : List SentPacket
  /-- forward-buffer peak (R324). -/
  forwardPeak : Nat
  /-- what the output sends since its last packet boundary (R253). -/
  sending : Sending
  /-- forwarded packets whose header is waiting, oldest first (R253). -/
  fwd : List Forwarding
  /-- a packet is being forwarded whose upstream link is lost before its EOP (R230). -/
  fwdOpen : Bool
  /-- LOSS_SEEN (R271). -/
  lossSeen : Bool
  /-- HDR_ERR (R251). -/
  hdrErr : Nat
  /-- LOOP (R251). -/
  loops : Nat
  /-- CRC first looks (R268). -/
  crcFirst : Nat
  /-- TRANSIENT packet CRCs (R268). -/
  crcTransient : Nat
  /-- LASTING packet CRCs (R268). -/
  crcLasting : Nat
  /-- duplicates (R269). -/
  duplicates : Nat
  /-- packets discarded for want of room (R267). -/
  noCredit : Nat
  /-- unknown types (R255). -/
  unknown : Nat
  /-- dropped EVENT entries (R263). -/
  evDropped : Nat
  /-- EVENT entries dropped since the last EVENT packet (R263). -/
  evSince : Nat
  /-- deliveries and events not sent in CAN-only operation (R300). -/
  canOnlyLost : Nat
  /-- what has left the output, newest first (model R252). -/
  out : List VxOut
  deriving DecidableEq, Repr

/-- Vex right after reset. -/
def Vex.reset : Vex where
  rx := .off
  rxLane := .l2
  txLane := .l2
  lanes := List.replicate 4 Lane.reset
  lastFail := 0
  failRun := false
  retryDue := false
  lost := false
  lostTimed := false
  losses := 0
  wakeLock := false
  restart := false
  addr := none
  epoch := 0
  seq := 0
  dupUni := []
  dupBro := []
  answers := []
  crcLooks := []
  charErrors := []
  crTotal := 0
  own := []
  copies := []
  retx := []
  forwardPeak := 0
  sending := .nothing
  fwd := []
  fwdOpen := false
  lossSeen := false
  hdrErr := 0
  loops := 0
  crcFirst := 0
  crcTransient := 0
  crcLasting := 0
  duplicates := 0
  noCredit := 0
  unknown := 0
  evDropped := 0
  evSince := 0
  canOnlyLost := 0
  out := []

/-- CAN FD and the Grenz protocol (chapter 14) -/
structure Can where
  /-- CAN address in force (R288). -/
  addr : Nat
  /-- address waiting to take effect (R288). -/
  newAddr : Option Nat
  /-- last request answered per class or transport, its answer, and its TSTAMP (R292). -/
  answered : List (GrenzMsg × GrenzAnswer × Nat)
  /-- block transfer in progress (R294). -/
  transfer : Option Transfer
  /-- transmit error counter (R324). -/
  tecErr : Nat
  /-- receive error counter (R324). -/
  recErr : Nat
  /-- bus-off (R303). -/
  busOff : Bool
  /-- recovery sequence running (R303). -/
  recovering : Bool
  /-- bus-off count (R324). -/
  busOffs : Nat
  /-- automatic recoveries (R324). -/
  recoveries : Nat
  /-- automatic recoveries within the preceding 60 s (R303). -/
  recoveredAt : List Nat
  /-- strangers (R301). -/
  strangers : Nat
  /-- malformed frames (R301). -/
  malformed : Nat
  /-- clashes (R302). -/
  clashes : Nat
  /-- foreign host heartbeats (R296). -/
  foreignBeats : Nat
  /-- TRANSIENT block failures (R295). -/
  blockTransients : Nat
  /-- dropped EVENT frames (R324). -/
  evLost : Nat
  /-- EVENT entries dropped since the last EVENT frame (R297). -/
  evSince : Nat
  /-- EVENT frame queue (R297). -/
  evQueue : List (List Byte)
  /-- answers muted by an address clash (R302). -/
  muted : Bool
  /-- HB_COUNT (R296). -/
  hbCount : Nat
  /-- COMMIT_STAGE payload (R298). -/
  stage : Option (List Byte)
  /-- the staged commit (R298). -/
  stageCommit : Option Commit
  /-- CAN-only operation (R300). -/
  canOnly : Bool
  /-- frames put on the bus, newest first (model R289). -/
  out : List CanOut
  /-- responses given over SVC, newest first (model R379). -/
  svcResp : List (List Byte)
  deriving DecidableEq, Repr

/-- Can right after reset. -/
def Can.reset : Can where
  addr := 0
  newAddr := none
  answered := []
  transfer := none
  tecErr := 0
  recErr := 0
  busOff := false
  recovering := false
  busOffs := 0
  recoveries := 0
  recoveredAt := []
  strangers := 0
  malformed := 0
  clashes := 0
  foreignBeats := 0
  blockTransients := 0
  evLost := 0
  evSince := 0
  evQueue := []
  muted := false
  hbCount := 0
  stage := none
  stageCommit := none
  canOnly := false
  out := []
  svcResp := []

/-- Access levels and unlocking, one per transport (R304 to R306) -/
structure Access where
  /-- level in force (R304). -/
  level : Level
  /-- challenge outstanding and the level it is for (R305). -/
  challenge : Option (Nat × List Byte)
  /-- LOG_READ_INDEX of the transport (R347). -/
  logIndex : Nat
  deriving DecidableEq, Repr

/-- Access right after reset. -/
def Access.reset : Access where
  level := .user
  challenge := none
  logIndex := 0

/-- Yarrow: access, events, log and time (chapters 14 and 17) -/
structure Mgmt where
  /-- access state of CAN (R304). -/
  can : Access
  /-- access state of Vexlink (R304). -/
  vexlink : Access
  /-- access state of SVC (R304). -/
  svc : Access
  /-- consecutive mismatches (R305). -/
  mismatches : Nat
  /-- TSTAMP until which UNLOCK_REQ is answered LOCKOUT (R305). -/
  lockUntil : Nat
  /-- EVENT_LATCHED (R335). -/
  latched : List Nat
  /-- EVENT_SEQ (R335). -/
  evSeq : Nat
  /-- EV_COUNT by event (R335). -/
  evCounts : List (Nat × Nat)
  /-- EV_LAST by event (R335). -/
  evLast : List (Nat × List Byte)
  /-- severity with which each event was last raised (R340). -/
  lastSev : List (Nat × Nat)
  /-- the log is being erased by LOG_CLEAR: the SYSTEM record that is written after it (R346). -/
  clearRecord : Option (List Byte)
  /-- hardware record queue, oldest first (R345). -/
  logQueue : List (List Byte)
  /-- reads of LOG_RECORDS in progress, oldest first: transport, TOKEN, and the index each sets (R347). -/
  logReads : List (Transport × Nat × Nat)
  /-- DROPPED (R345). -/
  logDropped : Nat
  /-- discards not yet recorded in a SYSTEM record (R345). -/
  dropsToNote : Nat
  /-- the next record carries RECONSTRUCTED (R343). -/
  reconstructed : Bool
  /-- TSTAMP of the last watchdog service (R334). -/
  wdLast : Option Nat
  /-- watchdog window held open (R334). -/
  wdHeld : Bool
  /-- LOCKSTEP flag of the next BOOT_REPORT (R338). -/
  lockstep : Bool
  /-- BOOT_REPORT is to be raised when STANDBY is reached, after a RALLY_REVERT (R338). -/
  reportDue : Bool
  /-- ROLE at the previous boot (R372). -/
  prevRole : Option Nat
  deriving DecidableEq, Repr

/-- Mgmt right after reset. -/
def Mgmt.reset : Mgmt where
  can := Access.reset
  vexlink := Access.reset
  svc := Access.reset
  mismatches := 0
  lockUntil := 0
  latched := []
  evSeq := 0
  evCounts := []
  evLast := []
  lastSev := []
  clearRecord := none
  logQueue := []
  logReads := []
  logDropped := 0
  dropsToNote := 0
  reconstructed := false
  wdLast := none
  wdHeld := false
  lockstep := false
  reportDue := false
  prevRole := none

/-- Flash and one-time-programmable content (chapters 2, 9, 10, 13 to 15, 17, 20). It outlives every reset -/
structure Flash where
  /-- PERSIST: GEN, scalar values, DOMAIN values, and their seal (R314). -/
  persist : Dup (Sealed PersistRecord)
  /-- GZ_STORE and its seal (R173). -/
  gzStore : Dup (Sealed (List Nat))
  /-- PARK image and its seal (R354). -/
  parkImage : Dup (Sealed ParkImage)
  /-- defect map: pixels that are not GOOD (R202). -/
  defects : Dup (List (Nat × Nat))
  /-- factory defect map (R43). -/
  factoryDefects : List (Nat × Nat)
  /-- Gp table: pixels whose g is not 128 (R45). -/
  gp : Dup (List (Nat × Nat))
  /-- zone records; an empty string stands for factoryZone (Machine/Factory.lean) (R44). -/
  zoneRecs : List (Dup (List Byte))
  /-- CROSS_LIST (R202). -/
  crossList : Dup (List Nat)
  /-- store header; the empty string stands for factoryHeader (Machine/Factory.lean) (R45). -/
  header : Dup (List Byte)
  /-- surface 0 image; the empty string stands for 65,536 bytes of 0 (R94). -/
  surface0 : Dup (List Byte)
  /-- fallback images; the empty data stands for 65,536 bytes of 0 (R213). -/
  fbImages : List (Dup FbImage)
  /-- K_INT (R305). -/
  kInt : List Byte
  /-- K_SVC (R305). -/
  kSvc : List Byte
  /-- CAN_ADDR_LAST, none when never enumerated (R288). -/
  canAddrLast : Option Nat
  /-- UNLOCK_COUNT (R305). -/
  unlockCount : Nat
  /-- record of CAN_ADDR_LAST, absent when never enumerated (R315). -/
  addrLast : Dup Nat
  /-- record of UNLOCK_COUNT, absent before the first challenge (R315). -/
  unlocks : Dup Nat
  /-- BOOT_COUNT (R340). -/
  bootCount : Nat
  /-- log ring by LOG_SEQ, ascending (R344). -/
  log : List (Nat × List Byte)
  /-- LOG_SEQ of the next record (R344). -/
  logNext : Nat
  /-- WRAP_COUNT (R346). -/
  logWraps : Nat
  /-- CORRUPT (R345). -/
  logCorrupt : Nat
  /-- thermal-shutdown area, oldest first (R195). -/
  thermLog : List (List Byte)
  /-- EV_SEVERITY values in force, where not the default (R319). -/
  severities : List (Nat × Nat)
  /-- record of EV_SEVERITY, absent before its first write (R309). -/
  severityRecs : Dup (List (Nat × Nat))
  /-- records whose service write is PENDING until both copies verify, by RECORD code (R315). -/
  storing : List Nat
  /-- records with a write due or in progress, by RECORD code (R424), 15 for CAN_ADDR_LAST (R281). -/
  due : List Nat
  /-- of them, those whose copy A has verified (R281). -/
  aDone : List Nat
  /-- copies whose write failed its check once: twice the RECORD code, plus 1 for copy B (R281). -/
  failedOnce : List Nat
  /-- fallback images written by a service write and not yet in both copies (R315). -/
  fbNew : List (Nat × FbImage)
  /-- key record: K_INT and K_SVC (R281). -/
  keys : Dup (List Byte × List Byte)
  /-- ROLLBACK_COUNTER (R383). -/
  rollback : Nat
  /-- slot-select record: slot B (R383). -/
  slotSelect : Bool
  deriving DecidableEq, Repr

/-- Flash right after reset. -/
def Flash.reset : Flash where
  persist := ⟨.erased, .erased⟩
  gzStore := ⟨.erased, .erased⟩
  parkImage := ⟨.erased, .erased⟩
  defects := ⟨.good [], .good []⟩
  factoryDefects := []
  gp := ⟨.good [], .good []⟩
  zoneRecs := List.replicate 512 ⟨.good [], .good []⟩
  crossList := ⟨.erased, .erased⟩
  header := ⟨.good [], .good []⟩
  surface0 := ⟨.good [], .good []⟩
  fbImages := List.replicate 4 ⟨.good ⟨255, 0, []⟩, .good ⟨255, 0, []⟩⟩
  kInt := Config.factoryKInt
  kSvc := Config.factoryKSvc
  canAddrLast := none
  unlockCount := 0
  addrLast := ⟨.erased, .erased⟩
  unlocks := ⟨.erased, .erased⟩
  bootCount := 0
  log := []
  logNext := 0
  logWraps := 0
  logCorrupt := 0
  thermLog := []
  severities := []
  severityRecs := ⟨.erased, .erased⟩
  storing := []
  due := []
  aDone := []
  failedOnce := []
  fbNew := []
  keys := ⟨.good (Config.factoryKInt, Config.factoryKSvc), .good (Config.factoryKInt, Config.factoryKSvc)⟩
  rollback := 0
  slotSelect := false

/-- The object dictionary's working values (chapter 15) -/
structure Dict where
  /-- scalar values that differ from their defaults, by index x 256 + subindex, ascending (R309). -/
  vals : List (Nat × Nat)
  /-- DOMAIN values that differ from their defaults, by the same key (R309). -/
  doms : List (Nat × List Byte)
  /-- count of commit-carried writes accepted (model R114). -/
  stamp : Nat
  /-- RWP objects whose change PERSIST does not hold yet (R314). -/
  dirty : List Nat
  /-- a PERSIST commit runs (R314). -/
  committing : Bool
  /-- another commit starts as soon as this one completes (R314). -/
  commitAgain : Bool
  /-- a STORE waits for the 2 s spacing to end (R314). -/
  storeDue : Bool
  /-- RESTORE_DEFAULTS is to be written, or is being written (R314). -/
  restoring : Bool
  /-- GEN last committed (R314). -/
  gen : Nat
  /-- TSTAMP of the last commit (R314). -/
  lastCommit : Option Nat
  /-- TSTAMP of the first write that made it dirty (R314). -/
  dirtySince : Option Nat
  /-- values the commit in progress writes (R314). -/
  snapshot : List (Nat × Nat) × List (Nat × List Byte)
  /-- objects that the commit in progress was started for, none for RESTORE_DEFAULTS (R314). -/
  commitKeys : Option (List Nat)
  /-- CAL_STATUS SUBSTITUTED bits (R282). -/
  substituted : List Nat
  /-- reloads from flash after a LASTING scrub result (R45). -/
  reloads : Nat
  /-- CAN_DATA_RATE in force (R285). -/
  dataRate : Nat
  deriving DecidableEq, Repr

/-- Dict right after reset. -/
def Dict.reset : Dict where
  vals := []
  doms := []
  stamp := 0
  dirty := []
  committing := false
  commitAgain := false
  storeDue := false
  restoring := false
  gen := 0
  lastCommit := none
  dirtySince := none
  snapshot := ([], [])
  commitKeys := none
  substituted := []
  reloads := 0
  dataRate := 0

/-- Check-value units (chapter 13) and the calibration store -/
structure Checks where
  /-- calibration store, byte addressed (R41). -/
  cal : List Host.Cell
  /-- scan in progress (R277). -/
  scan : Option ScanJob
  /-- scan requests waiting (R277). -/
  waiting : List ScanJob
  /-- stored checks whose second look is pending, with the check value of the first (R280). -/
  looks : List (ScanUser × Nat)
  /-- CRCS_STATUS (R283). -/
  crcsState : Nat
  /-- cause of ABORTED (R279). -/
  crcsCause : Nat
  /-- CRCS_RESULT cv (R276). -/
  crcsCv : Nat
  /-- CRCS_RESULT length (R276). -/
  crcsLen : Nat
  /-- DEFECT_SEAL (R278). -/
  defectSeal : Nat
  deriving DecidableEq, Repr

/-- Checks right after reset. -/
def Checks.reset : Checks where
  cal := []
  scan := none
  waiting := []
  looks := []
  crcsState := 0
  crcsCause := 0
  crcsCv := 0
  crcsLen := 0
  defectSeal := 0

/-- Power states, resets, wake, straps, time and pins (chapters 18, 19 and 22) -/
structure Power where
  /-- what the module as a whole is doing (R364). -/
  life : Life
  /-- DEV_STATE (R349). -/
  dev : DevState
  /-- transition in progress (R351). -/
  trans : Option Transition
  /-- SAFE_DARK causes recorded (R209). -/
  dark : List DarkCause
  /-- FAULT_ACK written since the latest FAULT cause arose (R209). -/
  faultAckSeen : Bool
  /-- sources that hold the reset in progress (R371). -/
  held : List ResetCause
  /-- LAST_RESET_CAUSE (R369). -/
  lastReset : ResetCause
  /-- RESET_CMD waits for its commits (R370). -/
  resetDue : Bool
  /-- LINK powered (R349). -/
  link : Bool
  /-- COMP powered (R349). -/
  comp : Bool
  /-- SCAN powered (R349). -/
  scan : Bool
  /-- EMIT powered (R349). -/
  emit : Bool
  /-- AUX powered (R349). -/
  aux : Bool
  /-- domains woken on demand (R357). -/
  onDemand : List Domain
  /-- LAST_WAKE_CAUSE (R361). -/
  wakeCause : List Nat
  /-- SLEEP_RESULT (R362). -/
  sleepResult : Nat
  /-- SLEEP_GO is scheduled (R362). -/
  sleepDue : Bool
  /-- the timer alarm has fired since entry (R361). -/
  alarmDone : Bool
  /-- VIN averaged over 1 ms, mV (R22). -/
  vinMv : Nat
  /-- slow clock taken from the external crystal (R373). -/
  crystal : Bool
  /-- ROLE straps (R372). -/
  role : Nat
  /-- BOOT strap (R372). -/
  bootStrap : Bool
  /-- REFSEL strap (R372). -/
  refsel : Bool
  /-- REFCLK runs (R350). -/
  refclk : Bool
  /-- TSTAMP, us (R342). -/
  tstamp : Nat
  /-- 32.768 kHz count (R343). -/
  slow : Nat
  /-- fraction of a slow-clock period, in 1/1,000,000 (model R343). -/
  slowAcc : Nat
  /-- TSTAMP captured at the stop of REFCLK (R343). -/
  stopTstamp : Nat
  /-- slow count captured at the stop (R343). -/
  stopSlow : Nat
  /-- LIGHT_ON asserted (R415). -/
  lightOn : Bool
  /-- LIMP_N low (R415). -/
  limpLow : Bool
  /-- HEALTH pin (R212). -/
  health : Nat
  /-- STB_N pin (R284). -/
  stbHigh : Bool
  /-- TSTAMP of the latest entry to a state (R353). -/
  readyAt : Nat
  /-- TSTAMP of the release of reset, or of the latest resume (R334). -/
  releasedAt : Nat
  /-- the steps of the latest power-up or power-down of each domain, in order; none is MGMT (R356). -/
  steps : List (Option Domain × List PowerStep)
  /-- TSTAMP at which AON stamped the wake in progress (R343). -/
  wakeAt : Nat
  deriving DecidableEq, Repr

/-- Power right after reset. -/
def Power.reset : Power where
  life := .booting
  dev := .park
  trans := none
  dark := []
  faultAckSeen := false
  held := []
  lastReset := .por
  resetDue := false
  link := false
  comp := false
  scan := false
  emit := false
  aux := false
  onDemand := []
  wakeCause := []
  sleepResult := 0
  sleepDue := false
  alarmDone := false
  vinMv := 12000
  crystal := false
  role := 0
  bootStrap := false
  refsel := false
  refclk := true
  tstamp := 0
  slow := 0
  slowAcc := 0
  stopTstamp := 0
  stopSlow := 0
  lightOn := false
  limpLow := false
  health := 0
  stbHigh := false
  readyAt := 0
  releasedAt := 0
  steps := []
  wakeAt := 0

/-- An image slot in flash (R386) -/
structure Slot where
  /-- STATE (R386). -/
  state : SlotState
  /-- image header (R386). -/
  header : List Byte
  /-- tag table (R386). -/
  tags : List (List Byte)
  /-- chunks as stored, encrypted under K_DEV (R386). -/
  chunks : List (List Byte)
  /-- storage tags (R386). -/
  storeTags : List (List Byte)
  /-- STORE_GEN (R386). -/
  storeGen : Nat
  /-- slot record in flash, with its seal: copies A and B (R281). -/
  copies : Dup (Sealed SlotRecord)
  deriving DecidableEq, Repr

/-- Slot right after reset. -/
def Slot.reset : Slot where
  state := .empty
  header := []
  tags := []
  chunks := []
  storeTags := []
  storeGen := 0
  copies := ⟨.good ⟨⟨.empty, [], [], [], 0⟩, 0⟩, .good ⟨⟨.empty, [], [], [], 0⟩, 0⟩⟩

/-- What the sections of a hand-over record carry, as sealed (Table 20-7) -/
structure Carried where
  /-- consecutive mismatches of the unlock lockout (R390). -/
  mismatches : Nat
  /-- TSTAMP to which the unlock lockout lasts (R390). -/
  lockUntil : Nat
  /-- host presence (R390). -/
  hostPresent : Bool
  /-- TSTAMP of the latest host heartbeat (R390). -/
  beat : Option Nat
  /-- TSTAMP of the latest host-sourced packet (R390). -/
  packet : Option Nat
  /-- upstream lock lost for VX_LOSS_MS (R390). -/
  upLost : Bool
  /-- EV101 raised since the host was last present (R390). -/
  hostLostRaised : Bool
  /-- fallback causes (R390). -/
  fbCauses : List FbCause
  /-- render trigger held (R390). -/
  renderHeld : Bool
  /-- Vexlink address (R390). -/
  addr : Option Nat
  /-- Vexlink epoch (R390). -/
  epoch : Nat
  /-- SEQ counter (R390). -/
  seq : Nat
  /-- duplicate window of unicast packets (R390). -/
  dupUni : List Nat
  /-- duplicate window of broadcast packets (R390). -/
  dupBro : List Nat
  /-- answers of the duplicate windows (R390). -/
  answers : List (Bool × Nat × OwnPacket)
  /-- own-packet copies (R390). -/
  copies : List (SentPacket × Bool)
  /-- Grenz stored answers (R390). -/
  answered : List (GrenzMsg × GrenzAnswer × Nat)
  /-- COMMIT_STAGE payload (R390). -/
  stage : Option (List Byte)
  /-- the staged commit (R390). -/
  stageCommit : Option Commit
  /-- GEN of PERSIST last committed (R390). -/
  gen : Nat
  /-- PERSIST dirty set (R390). -/
  dirty : List Nat
  /-- TSTAMP of the first write that made it dirty (R390). -/
  dirtySince : Option Nat
  /-- scalar values of the dirty set (R390). -/
  vals : List (Nat × Nat)
  /-- DOMAIN values of the dirty set (R390). -/
  doms : List (Nat × List Byte)
  /-- record writes pending (R390). -/
  due : List Nat
  /-- fallback images to be written (R390). -/
  fbNew : List (Nat × FbImage)
  /-- pixels whose second look is pending (R390). -/
  looks : List (Nat × Finding)
  /-- stored checks whose second look is pending (R390). -/
  stored : List (ScanUser × Nat)
  /-- pending second looks of each surface (R390). -/
  surfLooks : List (List (Nat × Option Nat) × Option Nat)
  /-- SVC frames whose second look is pending (R390). -/
  svcLooks : List (Nat × Nat × Nat)
  deriving DecidableEq, Repr

/-- Firmware update and the SVC port (chapter 20) -/
structure Rally where
  /-- RALLY_STATE (R388). -/
  phase : RallyPhase
  /-- slot A (R386). -/
  slotA : Slot
  /-- slot B (R386). -/
  slotB : Slot
  /-- ACTIVE_BANK is B (R319). -/
  bankB : Bool
  /-- OUTCOME (R394). -/
  outcome : Nat
  /-- REASON (R394). -/
  reason : Nat
  /-- COLD_PENDING (R393). -/
  coldPending : Bool
  /-- a cold activation is in progress, or the probation after one (R393). -/
  coldRun : Bool
  /-- the cold activation came from a whole-module reset (R393). -/
  coldReset : Bool
  /-- TRANSFER_OPEN (R385). -/
  transfer : Bool
  /-- chunk being received (R384). -/
  chunk : Nat
  /-- next part of it (R384). -/
  part : Nat
  /-- ciphertext of the chunk so far (R384). -/
  chunkData : List Byte
  /-- CHUNK_AUTH failed its first look: the tag it formed (R384). -/
  chunkLook : Option (List Byte)
  /-- header of the open transfer (R384). -/
  newHeader : List Byte
  /-- tag table of the open transfer (R384). -/
  newTags : List (List Byte)
  /-- chunks authenticated so far, as stored (R384). -/
  newChunks : List (List Byte)
  /-- their storage tags (R386). -/
  newStored : List (List Byte)
  /-- HANDOVER_COUNT (R394). -/
  handovers : Nat
  /-- GAP_US (R394). -/
  gap : Nat
  /-- TSTAMP of the quiesce (R394). -/
  quiesced : Nat
  /-- Yarrow memory bank A: the image loaded, by chunk; empty for the factory's image (R10). -/
  bankMemA : List (List Byte)
  /-- Yarrow memory bank B: the image loaded, by chunk (R10). -/
  bankMemB : List (List Byte)
  /-- top 64 KiB of bank A: its hand-over record as sealed, empty before the first (R389). -/
  topA : List Byte
  /-- top 64 KiB of bank B: its hand-over record as sealed, empty before the first (R389). -/
  topB : List Byte
  /-- TSTAMP of the last outcome (R394). -/
  outcomeAt : Nat
  /-- the last outcome is of a cold activation (R394). -/
  outcomeCold : Bool
  /-- the new bank is being loaded (R387). -/
  loading : Bool
  /-- the new bank has loaded, the hand-over waits (R387). -/
  loaded : Bool
  /-- DEV_STATE and MOD_HEALTH of the heartbeat during a hand-over, as last written before the quiesce (R296). -/
  hbHeld : Option (Nat × Nat)
  /-- HOPS, EPOCH and nonce of an ENUM latched during the hand-over (R388). -/
  enumLatched : Option (Nat × Nat × Nat)
  /-- version handed over from (R394). -/
  fromVersion : Nat
  /-- version handed over to (R394). -/
  toVersion : Nat
  /-- SVC frames (SEQ, TYPE) whose FCRC failed its first look, with the value formed there (R380). -/
  svcLooks : List (Nat × Nat × Nat)
  /-- SEQ of the last frame processed, and its response once it is given (R380). -/
  svcLast : Option (Nat × Option (List Byte))
  /-- SEQ of the SVC frame being answered (R378). -/
  svcSeq : Nat
  /-- bytes of an SVC frame that has not come whole (R378). -/
  svcBuf : List Byte
  /-- what the sections of the hand-over record sealed last carry (R390). -/
  carried : Option Carried
  /-- fallback causes held during the hand-over (R388). -/
  heldFallback : List FbCause
  deriving DecidableEq, Repr

/-- Rally right after reset. -/
def Rally.reset : Rally where
  phase := .idle
  slotA := { Slot.reset with state := .active, copies := ⟨.good ⟨⟨.active, [], [], [], 0⟩, 0⟩, .good ⟨⟨.active, [], [], [], 0⟩, 0⟩⟩ }
  slotB := Slot.reset
  bankB := false
  outcome := 0
  reason := 0
  coldPending := false
  coldRun := false
  coldReset := false
  transfer := false
  chunk := 0
  part := 0
  chunkData := []
  chunkLook := none
  newHeader := []
  newTags := []
  newChunks := []
  newStored := []
  handovers := 0
  gap := 0
  quiesced := 0
  bankMemA := []
  bankMemB := []
  topA := []
  topB := []
  outcomeAt := 0
  outcomeCold := false
  loading := false
  loaded := false
  hbHeld := none
  enumLatched := none
  fromVersion := 0
  toVersion := 0
  svcLooks := []
  svcLast := none
  svcSeq := 0
  svcBuf := []
  carried := none
  heldFallback := []

/-- Auxiliary segment driver (chapter 21) -/
structure Aux where
  /-- MATRIX_STATE RUNNING (R405). -/
  matrixOn : Bool
  /-- scanning starts at the next auxiliary frame (R405). -/
  matrixStarts : Bool
  /-- CHAIN_STATE (R408). -/
  chain : Nat
  /-- AUX_FRAME (R408). -/
  frames : Nat
  /-- TSTAMP of the start of the frame (R403). -/
  frameAt : Nat
  /-- TSTAMP at which the latest shift completed (R403). -/
  doneAt : Nat
  /-- SHIFT_SEQ (R408). -/
  shiftSeq : Nat
  /-- AUX_LINE_TIME_US sampled (R395). -/
  lineTime : Nat
  /-- AUX_LINE_BLANK_US sampled (R395). -/
  lineBlank : Nat
  /-- AUX_SINK_MA sampled (R395). -/
  sinkMa : List Nat
  /-- AUX_MATRIX sampled, empty for all 0 (R395). -/
  matrix : List Byte
  /-- AUX_CHAIN_LEN sampled (R395). -/
  chainLen : Nat
  /-- AUX_CHAIN_MODE sampled (R395). -/
  chainMode : Nat
  /-- AUX_SCK_KHZ sampled (R395). -/
  sckKhz : Nat
  /-- AUX_CHAIN sampled, empty for all 0 (R395). -/
  chainData : List Byte
  /-- a shift runs (R403). -/
  shifting : Bool
  /-- the stream of the shift in progress (R402). -/
  shiftBits : List Bool
  /-- AUX_CHAIN_LEN of the shift in progress (R406). -/
  shiftLen : Nat
  /-- AUX_CHAIN_MODE of the shift in progress (R406). -/
  shiftMode : Nat
  /-- the shift in progress is judged (R404). -/
  judge : Bool
  /-- check value and SHIFT_SEQ of the previous stream (R404). -/
  kept : Option (Nat × Nat)
  /-- a completed shift waits for its latch (R403). -/
  complete : Bool
  /-- its latch is withheld (R404). -/
  withhold : Bool
  /-- check value of a loopback mismatch that awaits its second look (R404). -/
  look : Option Nat
  /-- consecutive matching comparisons in BLANKED_FAULT (R404). -/
  matching : Nat
  /-- LOOP_TRANSIENT (R408). -/
  loopTransient : Nat
  /-- LOOP_LASTING (R408). -/
  loopLasting : Nat
  /-- OPEN_TRANSIENT (R408). -/
  openTransient : Nat
  /-- OPEN_LASTING (R408). -/
  openLasting : Nat
  /-- SKIPPED (R408). -/
  skipped : Nat
  /-- OPEN_MAP, segments LASTING open (R408). -/
  openMap : List Nat
  /-- segments whose first look failed (R400). -/
  openLooks : List Nat
  /-- line whose gate drive is low (R397). -/
  line : Option Nat
  /-- T_s of each sink in the line slot (R399). -/
  onTimes : List Nat
  /-- AUX_BLANK high (R403). -/
  blankHigh : Bool
  /-- stream latched into the external drivers (R403). -/
  latched : List Bool
  /-- AUX_BLANK held high since a mismatch (R404). -/
  heldBlank : Bool
  deriving DecidableEq, Repr

/-- Aux right after reset. -/
def Aux.reset : Aux where
  matrixOn := false
  matrixStarts := false
  chain := 0
  frames := 0
  frameAt := 0
  doneAt := 0
  shiftSeq := 0
  lineTime := 100
  lineBlank := 5
  sinkMa := List.replicate 16 20
  matrix := []
  chainLen := 0
  chainMode := 0
  sckKhz := 10000
  chainData := []
  shifting := false
  shiftBits := []
  shiftLen := 0
  shiftMode := 0
  judge := false
  kept := none
  complete := false
  withhold := false
  look := none
  matching := 0
  loopTransient := 0
  loopLasting := 0
  openTransient := 0
  openLasting := 0
  skipped := 0
  openMap := []
  openLooks := []
  line := none
  onTimes := []
  blankHigh := true
  latched := []
  heldBlank := false

/-- IEEE 1149.1 test access port (Table 0-3, Table 22-1) -/
structure Tap where
  /-- what the test pins bring, waiting, oldest first (model R374). -/
  edges : List TapEdge
  /-- controller state (R374). -/
  ctl : TapState
  /-- instruction in force (Table 0-3). -/
  instr : TapInstr
  /-- instruction register as shifted, TDO end first (Table 0-3). -/
  ir : List Bool
  /-- data register as shifted, TDO end first (Table 0-3). -/
  dr : List Bool
  /-- boundary register as updated (Table 0-3). -/
  latch : List Bool
  /-- TDO, none while undriven (R374). -/
  tdo : Option Bool
  /-- TRST_N low, to which its pull-down holds it (Table 22-1). -/
  trstLow : Bool
  deriving DecidableEq, Repr

/-- Tap right after reset. -/
def Tap.reset : Tap where
  edges := []
  ctl := .testLogicReset
  instr := .idcode
  ir := []
  dr := []
  latch := []
  tdo := none
  trstLow := true

/-- The whole block -/
structure State where
  /-- commands waiting, first in first out (model). -/
  pending : List Instr
  /-- frames and scan-out (R46). -/
  tim : Timing
  /-- composition (R68). -/
  comp : Composer
  /-- surface memory (R92). -/
  surf : SurfMem
  /-- boxes, reflex and windows (R110). -/
  glare : Glare
  /-- sensing (R130). -/
  sense : Sense
  /-- supply and limiter (R151). -/
  sup : Supply
  /-- zones (R6). -/
  zones : List Zone
  /-- thermal supervisor (R181). -/
  therm : Thermal
  /-- faults and fallback (R197). -/
  flt : Faults
  /-- Vexlink (R223). -/
  vex : Vex
  /-- CAN and Grenz (R284). -/
  can : Can
  /-- management (R333). -/
  mgmt : Mgmt
  /-- flash (R281). -/
  flash : Flash
  /-- dictionary (R307). -/
  dict : Dict
  /-- check-value units (R272). -/
  chk : Checks
  /-- power, reset and pins (R348). -/
  pwr : Power
  /-- firmware update (R378). -/
  rally : Rally
  /-- auxiliary driver (R395). -/
  aux : Aux
  /-- test access port (R374). -/
  tap : Tap
  /-- counter of the free values drawn so far (model). -/
  free : Nat
  deriving DecidableEq, Repr

/-- State right after reset. -/
def State.reset : State where
  pending := []
  tim := Timing.reset
  comp := Composer.reset
  surf := SurfMem.reset
  glare := Glare.reset
  sense := Sense.reset
  sup := Supply.reset
  zones := List.replicate 512 Zone.reset
  therm := Thermal.reset
  flt := Faults.reset
  vex := Vex.reset
  can := Can.reset
  mgmt := Mgmt.reset
  flash := Flash.reset
  dict := Dict.reset
  chk := Checks.reset
  pwr := Power.reset
  rally := Rally.reset
  aux := Aux.reset
  tap := Tap.reset
  free := 0

end Sys2Proof.Machine
end

