-- ==== Sys2Proof/Machine/Ops.lean ====
section
/-! DEFINITION. The named operations that every command's meaning is built from: modifiers of the parts of State, byte
memories in canonical form, keyed lists, sets of numbers, and the arithmetic conventions of R7 to R9. -/

namespace Sys2Proof.Machine

open Sys2Proof

/-! ### Modifiers of the parts of State -/

/-- `s` with its tim part modified. -/
def State.onTim (s : State) (f : Timing → Timing) : State := { s with tim := f s.tim }

/-- `s` with its comp part modified. -/
def State.onComp (s : State) (f : Composer → Composer) : State := { s with comp := f s.comp }

/-- `s` with its surf part modified. -/
def State.onSurf (s : State) (f : SurfMem → SurfMem) : State := { s with surf := f s.surf }

/-- `s` with its glare part modified. -/
def State.onGlare (s : State) (f : Glare → Glare) : State := { s with glare := f s.glare }

/-- `s` with its sense part modified. -/
def State.onSense (s : State) (f : Sense → Sense) : State := { s with sense := f s.sense }

/-- `s` with its sup part modified. -/
def State.onSup (s : State) (f : Supply → Supply) : State := { s with sup := f s.sup }

/-- `s` with its therm part modified. -/
def State.onTherm (s : State) (f : Thermal → Thermal) : State := { s with therm := f s.therm }

/-- `s` with its flt part modified. -/
def State.onFlt (s : State) (f : Faults → Faults) : State := { s with flt := f s.flt }

/-- `s` with its vex part modified. -/
def State.onVex (s : State) (f : Vex → Vex) : State := { s with vex := f s.vex }

/-- `s` with its can part modified. -/
def State.onCan (s : State) (f : Can → Can) : State := { s with can := f s.can }

/-- `s` with its mgmt part modified. -/
def State.onMgmt (s : State) (f : Mgmt → Mgmt) : State := { s with mgmt := f s.mgmt }

/-- `s` with its flash part modified. -/
def State.onFlash (s : State) (f : Flash → Flash) : State := { s with flash := f s.flash }

/-- `s` with its dict part modified. -/
def State.onDict (s : State) (f : Dict → Dict) : State := { s with dict := f s.dict }

/-- `s` with its chk part modified. -/
def State.onChk (s : State) (f : Checks → Checks) : State := { s with chk := f s.chk }

/-- `s` with its pwr part modified. -/
def State.onPwr (s : State) (f : Power → Power) : State := { s with pwr := f s.pwr }

/-- `s` with its rally part modified. -/
def State.onRally (s : State) (f : Rally → Rally) : State := { s with rally := f s.rally }

/-- `s` with its aux part modified. -/
def State.onAux (s : State) (f : Aux → Aux) : State := { s with aux := f s.aux }

/-- `s` with zone `z` modified. -/
def State.onZone (s : State) (z : Nat) (f : Zone → Zone) : State := { s with zones := s.zones.modify z f }

/-- `s` with every zone modified by a function of its number. -/
def State.onZones (s : State) (f : Nat → Zone → Zone) : State := { s with zones := s.zones.mapIdx f }

/-- Zone `z`. -/
def State.zone (s : State) (z : Nat) : Zone := s.zones.getD z Zone.reset


/-! ### Rounding (R8) -/

/-- `a / b` rounded half up (R8). -/
def rhu (a b : Nat) : Nat := (a + b / 2) / b

/-- `a / b` of a signed number rounded half up (R8): floor of a/b + 1/2. -/
def rhuInt (a : Int) (b : Nat) : Int := Int.fdiv (2 * a + b) (2 * b)

/-- `v` held between `lo` and `hi`. -/
def clampNat (v lo hi : Nat) : Nat := max lo (min v hi)

/-- `v` held between `lo` and `hi`. -/
def clampInt (v lo hi : Int) : Int := max lo (min v hi)

/-- The unsigned encoding of a signed number in `w` bits (R7). -/
def toRaw (w : Nat) (v : Int) : Nat := (v % (2 ^ w : Nat)).toNat

/-- The signed number that `w` bits encode (R7). -/
def ofRaw (w : Nat) (v : Nat) : Int := if v % 2 ^ w < 2 ^ (w - 1) then (v % 2 ^ w : Nat) else (v % 2 ^ w : Nat) - (2 ^ w : Nat)

/-- Bits `lo` to `lo + n - 1` of a number. -/
def bits (v lo n : Nat) : Nat := v / 2 ^ lo % 2 ^ n

/-- Bit `i` of a number. -/
def bitOf (v i : Nat) : Bool := v / 2 ^ i % 2 == 1

/-- The number whose set bits are those listed. -/
def bitsNat (l : List Nat) : Nat := l.foldl (fun a i => a + 2 ^ i) 0

/-- 1 for true, 0 for false. -/
def b2n (b : Bool) : Nat := if b then 1 else 0

/-! ### Byte memories: sorted by address, no entry 0, an unlisted address reads 0 (log 4) -/

/-- The byte at an address. -/
def memGet (m : List Host.Cell) (a : Nat) : Byte :=
  match m.find? (fun c => c.1 == a) with
  | some c => c.2
  | none => 0

/-- `n` bytes from an address, of cells listed from that address on, before those already found in reverse order. -/
def memWalk : Nat → Nat → List Host.Cell → List Byte → List Byte
  | 0, _, _, acc => acc.reverse
  | n + 1, a, [], acc => memWalk n (a + 1) [] (0 :: acc)
  | n + 1, a, c :: m, acc => if c.1 = a then memWalk n (a + 1) m (c.2 :: acc) else memWalk n (a + 1) (c :: m) (0 :: acc)

/-- `n` bytes from an address. -/
def memRead (m : List Host.Cell) (a n : Nat) : List Byte := memWalk n a (m.dropWhile fun c => c.1 < a) []

/-- The listed cells of a byte string placed at an address: its bytes that are not 0. -/
def cellsOf : Nat → List Byte → List Host.Cell
  | _, [] => []
  | a, b :: bs => if b = 0 then cellsOf (a + 1) bs else (a, b) :: cellsOf (a + 1) bs

/-- The memory with a byte string written at an address. -/
def memWrite (m : List Host.Cell) (a : Nat) (bs : List Byte) : List Host.Cell :=
  m.filter (fun c => c.1 < a) ++ cellsOf a bs ++ m.filter (fun c => a + bs.length ≤ c.1)

/-- The memory with `n` bytes from an address set to 0. -/
def memClear (m : List Host.Cell) (a n : Nat) : List Host.Cell :=
  m.filter (fun c => c.1 < a) ++ m.filter (fun c => a + n ≤ c.1)

/-- The canonical form: addresses strictly rising, no byte 0. -/
abbrev memWf (m : List Host.Cell) : Prop := m.Pairwise (fun c d => c.1 < d.1) ∧ ∀ c ∈ m, c.2 ≠ 0

/-! ### Keyed lists: sorted by key, at most one entry a key -/

/-- The value kept for a key. -/
def kvGet {α : Type} (m : List (Nat × α)) (k : Nat) : Option α :=
  match m.find? (fun c => c.1 == k) with
  | some c => some c.2
  | none => none

/-- The list with a key's value replaced. -/
def kvSet {α : Type} (m : List (Nat × α)) (k : Nat) (v : α) : List (Nat × α) :=
  m.filter (fun c => c.1 < k) ++ (k, v) :: m.filter (fun c => k < c.1)

/-- The list without a key. -/
def kvDel {α : Type} (m : List (Nat × α)) (k : Nat) : List (Nat × α) := m.filter fun c => c.1 != k

/-- The canonical form: keys strictly rising. -/
abbrev kvWf {α : Type} (m : List (Nat × α)) : Prop := m.Pairwise (fun c d => c.1 < d.1)

/-! ### Sets of numbers: strictly rising lists -/

/-- The set with a number added. -/
def setAdd (l : List Nat) (k : Nat) : List Nat := l.filter (· < k) ++ k :: l.filter (k < ·)

/-- The set without a number. -/
def setDel (l : List Nat) (k : Nat) : List Nat := l.filter (· != k)

/-- A set of values of an enumeration with one added. -/
def enumAdd {α : Type} [DecidableEq α] (l : List α) (x : α) : List α := if x ∈ l then l else l ++ [x]

/-- A set of values of an enumeration without one. -/
def enumDel {α : Type} [DecidableEq α] (l : List α) (x : α) : List α := l.filter (fun y => decide (y ≠ x))

/-! ### Lists by position -/

/-- The list with the element at a position modified. -/
def modAt {α : Type} (l : List α) (i : Nat) (f : α → α) : List α := l.modify i f

/-- Every element modified by a function of its position. -/
def modAll {α : Type} (l : List α) (f : Nat → α → α) : List α := l.mapIdx f

/-- The sum of a list. -/
def sumNat (l : List Nat) : Nat := l.foldl (· + ·) 0

/-- The maximum of a list, 0 for an empty one. -/
def maxNat (l : List Nat) : Nat := l.foldl max 0

/-- The first `n` numbers. -/
def upTo (n : Nat) : List Nat := List.range n

/-! ### Byte strings -/

/-- The bytes of an ASCII string, in order. -/
def ascii (s : String) : List Byte := s.toList.map fun c => BitVec.ofNat 8 c.toNat

/-- A byte string padded with 0 to `n` bytes. -/
def padTo (n : Nat) (bs : List Byte) : List Byte := bs ++ List.replicate (n - bs.length) 0

/-- A byte string padded with 0 to a multiple of 4 bytes (R318). -/
def pad4 (bs : List Byte) : List Byte := padTo ((bs.length + 3) / 4 * 4) bs

/-- `n` bytes of a byte string from an offset, as a little-endian number (R9). -/
def field (bs : List Byte) (off n : Nat) : Nat := leValue ((bs.drop off).take n)

/-- The signed 16-bit number at an offset. -/
def fieldI16 (bs : List Byte) (off : Nat) : Int := ofRaw 16 (field bs off 2)

/-- One byte as a string. -/
def u8 (v : Nat) : List Byte := leBytes 1 v

/-- A u16 as bytes (R9). -/
def u16 (v : Nat) : List Byte := leBytes 2 v

/-- A u32 as bytes (R9). -/
def u32 (v : Nat) : List Byte := leBytes 4 v

/-- A u64 as bytes (R9). -/
def u64 (v : Nat) : List Byte := leBytes 8 v

/-- A signed 16-bit number as bytes (R7, R9). -/
def s16 (v : Int) : List Byte := leBytes 2 (toRaw 16 v)

/-- A byte string replaced from an offset on by another, its length kept. -/
def splice (old : List Byte) (off : Nat) (new : List Byte) : List Byte :=
  old.take off ++ new ++ old.drop (off + new.length)

/-! ### Time and free values -/

/-- A 32-bit counter increased by `n`. The spec states no result where the sum does not fit in 32 bits: a free value
(log 7). -/
def inc32 (v n : Nat) : Nat := if v + n < 2 ^ 32 then v + n else (Config.overflowed (v + n)).toNat

/-- TSTAMP now (R342). -/
def State.now (s : State) : Nat := s.pwr.tstamp

/-- `n` random bytes (R305), free values by draw; the counter of draws advances. -/
def State.drawRandom (s : State) (n : Nat) : List Byte × State :=
  ((List.range n).map fun i => Config.randomByte (s.free + i), { s with free := s.free + n })

/-- `n` bytes that the spec does not state (R340, R341), free values by draw. -/
def State.drawUnstated (s : State) (n : Nat) : List Byte × State :=
  ((List.range n).map fun i => Config.unstatedByte s.free i, { s with free := s.free + 1 })

end Sys2Proof.Machine
end

