-- ==== Sys2Proof/Machine/Crypto.lean ====
section
/-! DEFINITION. The cryptographic functions that the spec names: AES-256 (FIPS 197, R305), AES-256-GCM (R382), SHA-256 and ECDSA P-256
verification (FIPS 180-4, FIPS 186-5, R382). -/

namespace Sys2Proof.Machine

open Sys2Proof

/-! ### Big-endian numbers -/

/-- The value of a big-endian byte string. -/
def beValue (bs : List Byte) : Nat := leValue bs.reverse

/-- The big-endian encoding of a number in `n` bytes. -/
def beBytes (n v : Nat) : List Byte := (leBytes n v).reverse

/-! ### AES-256 (FIPS 197) -/

/-- The S-box: entry `i` is byte `i` of this number, the least significant first. -/
def aesSboxNum : Nat := 0x16bb54b00f2d99416842e6bf0d89a18cdf2855cee9871e9b948ed9691198f8e19e1dc186b95735610ef6034866b53e708a8bbd4b1f74dde8c6b4a61c2e2578ba08ae7a65eaf4566ca94ed58d6d37c8e779e4959162acd3c25c2406490a3a32e0db0b5ede14b8ee4688902a22dc4f816073195d643d7ea7c41744975fec130ccdd2f3ff1021dab6bcf5389d928f40a351a89f3c507f02f94585334d43fbaaefd0cf584c4a39becb6a5bb1fc20ed00d153842fe329b3d63b52a05a6e1b1a2c830975b227ebe28012079a059618c323c7041531d871f1e5a534ccf73f362693fdb7c072a49cafa2d4adf04759fa7dc982ca76abd7fe2b670130c56f6bf27b777c63

/-- SubBytes of one byte. -/
def aesSub (b : Nat) : Nat := aesSboxNum / 256 ^ b % 256

/-- Multiplication by x in GF(2^8). -/
def aesDouble (b : Nat) : Nat := if b < 128 then 2 * b else (2 * b - 256) ^^^ 0x1B

/-- Exclusive-or of two byte lists. -/
def xorBytes (a b : List Nat) : List Nat := List.zipWith (· ^^^ ·) a b

/-- Words of the key schedule, newest first: one more word. -/
def aesNextWord (i : Nat) (ws : List (List Nat)) : List Nat :=
  let t := ws.headD []
  let u := if i % 8 = 0 then
      match (t.drop 1 ++ t.take 1).map aesSub with
      | x :: rest => (x ^^^ 2 ^ (i / 8 - 1)) :: rest
      | [] => []
    else if i % 8 = 4 then t.map aesSub else t
  xorBytes (ws.getD 7 []) u

/-- The 60 words of the AES-256 key schedule, in order. -/
def aesSchedule (key : List Nat) : List (List Nat) :=
  let start := ((upTo 8).map fun i => (key.drop (4 * i)).take 4).reverse
  ((upTo 52).foldl (fun ws k => aesNextWord (k + 8) ws :: ws) start).reverse

/-- The round key of round `r`, 16 bytes. -/
def aesRoundKey (ws : List (List Nat)) (r : Nat) : List Nat := ((ws.drop (4 * r)).take 4).flatten

/-- SubBytes and ShiftRows of a state of 16 bytes in column order. -/
def aesSubShift (s : List Nat) : List Nat := (upTo 16).map fun i => aesSub (s.getD (4 * ((i / 4 + i % 4) % 4) + i % 4) 0)

/-- MixColumns of one column. -/
def aesMixColumn (c : List Nat) : List Nat :=
  (upTo 4).map fun i =>
    let a := fun k => c.getD ((i + k) % 4) 0
    aesDouble (a 0) ^^^ (aesDouble (a 1) ^^^ a 1) ^^^ a 2 ^^^ a 3

/-- MixColumns of a state. -/
def aesMix (s : List Nat) : List Nat := ((upTo 4).map fun k => aesMixColumn ((s.drop (4 * k)).take 4)).flatten

/-- The AES-256 encryption of a block under an expanded key. -/
def aesEncryptWith (ws : List (List Nat)) (block : List Nat) : List Nat :=
  let s0 := xorBytes block (aesRoundKey ws 0)
  let s13 := (upTo 13).foldl (fun s k => xorBytes (aesMix (aesSubShift s)) (aesRoundKey ws (k + 1))) s0
  xorBytes (aesSubShift s13) (aesRoundKey ws 14)

/-- The AES-256 encryption of one block of 16 bytes (R305). -/
def aes256 (key block : List Byte) : List Byte :=
  (aesEncryptWith (aesSchedule (key.map BitVec.toNat)) (block.map BitVec.toNat)).map (BitVec.ofNat 8)

/-! ### AES-256-GCM (R382) -/

/-- Multiplication in GF(2^128) as GCM defines it; bit 127 of a number is the first bit of its block. -/
def gcmMul (x y : Nat) : Nat :=
  ((upTo 128).foldl (fun (zv : Nat × Nat) i =>
    let (z, v) := zv
    (if bitOf x (127 - i) then z ^^^ v else z, if v % 2 = 1 then (v / 2) ^^^ (0xE1 * 2 ^ 120) else v / 2)) (0, y)).1

/-- A byte string cut into blocks of 16 bytes, the last one as long as it is. -/
def blocks16 (bs : List Byte) : List (List Byte) := (upTo ((bs.length + 15) / 16)).map fun i => (bs.drop (16 * i)).take 16

/-- GHASH over additional data and ciphertext. -/
def ghash (h : Nat) (aad text : List Byte) : Nat :=
  let step := fun (y : Nat) (b : List Byte) => gcmMul (y ^^^ beValue (padTo 16 b)) h
  let y := (blocks16 aad ++ blocks16 text).foldl step 0
  gcmMul (y ^^^ (8 * aad.length * 2 ^ 64 + 8 * text.length)) h

/-- The encryption of a block under an expanded key. -/
def aesBlock (ws : List (List Nat)) (b : List Byte) : List Byte := (aesEncryptWith ws (b.map BitVec.toNat)).map (BitVec.ofNat 8)

/-- The key stream of GCM laid over a text: it encrypts and decrypts. -/
def gcmStream (ws : List (List Nat)) (nonce text : List Byte) : List Byte :=
  ((blocks16 text).zipIdx.map fun e => List.zipWith (· ^^^ ·) e.1 (aesBlock ws (nonce ++ beBytes 4 (e.2 + 2)))).flatten

/-- The tag of GCM over additional data and ciphertext. -/
def gcmTag (ws : List (List Nat)) (nonce aad text : List Byte) : List Byte :=
  beBytes 16 (ghash (beValue (aesBlock ws (List.replicate 16 0))) aad text ^^^ beValue (aesBlock ws (nonce ++ beBytes 4 1)))

/-- Decryption under a 12-byte nonce: the plaintext, and the tag computed over the ciphertext. -/
def gcmOpen (key nonce aad text : List Byte) : List Byte × List Byte :=
  let ws := aesSchedule (key.map BitVec.toNat)
  (gcmStream ws nonce text, gcmTag ws nonce aad text)

/-- Encryption under a 12-byte nonce: the ciphertext and its tag. -/
def gcmSeal (key nonce aad plain : List Byte) : List Byte × List Byte :=
  let ws := aesSchedule (key.map BitVec.toNat)
  let text := gcmStream ws nonce plain
  (text, gcmTag ws nonce aad text)

/-! ### SHA-256 (FIPS 180-4) -/

/-- The round constants, the first in the highest 32 bits. -/
def shaK : Nat := 0x428a2f9871374491b5c0fbcfe9b5dba53956c25b59f111f1923f82a4ab1c5ed5d807aa9812835b01243185be550c7dc372be5d7480deb1fe9bdc06a7c19bf174e49b69c1efbe47860fc19dc6240ca1cc2de92c6f4a7484aa5cb0a9dc76f988da983e5152a831c66db00327c8bf597fc7c6e00bf3d5a7914706ca63511429296727b70a852e1b21384d2c6dfc53380d13650a7354766a0abb81c2c92e92722c85a2bfe8a1a81a664bc24b8b70c76c51a3d192e819d6990624f40e3585106aa07019a4c1161e376c082748774c34b0bcb5391c0cb34ed8aa4a5b9cca4f682e6ff3748f82ee78a5636f84c878148cc7020890befffaa4506cebbef9a3f7c67178f2

/-- The initial hash value, its first word in the highest 32 bits. -/
def shaInit : Nat := 0x6a09e667bb67ae853c6ef372a54ff53a510e527f9b05688c1f83d9ab5be0cd19

/-- Word `i` of `n` 32-bit words packed with the first highest. -/
def packedWord (v n i : Nat) : Nat := v / 2 ^ (32 * (n - 1 - i)) % 2 ^ 32

/-- Rotation right of a 32-bit word. -/
def rotr (v n : Nat) : Nat := v / 2 ^ n + v % 2 ^ n * 2 ^ (32 - n)

/-- The message schedule, newest first: one more word. -/
def shaNextWord (ws : List Nat) : Nat :=
  let w15 := ws.getD 14 0
  let w2 := ws.getD 1 0
  let s0 := rotr w15 7 ^^^ rotr w15 18 ^^^ (w15 / 2 ^ 3)
  let s1 := rotr w2 17 ^^^ rotr w2 19 ^^^ (w2 / 2 ^ 10)
  (ws.getD 15 0 + s0 + ws.getD 6 0 + s1) % 2 ^ 32

/-- One round over the working variables a to h. -/
def shaRound (v : List Nat) (kw : Nat) : List Nat :=
  let g := fun i => v.getD i 0
  let s1 := rotr (g 4) 6 ^^^ rotr (g 4) 11 ^^^ rotr (g 4) 25
  let ch := (g 4 &&& g 5) ^^^ ((2 ^ 32 - 1 - g 4) &&& g 6)
  let t1 := g 7 + s1 + ch + kw
  let s0 := rotr (g 0) 2 ^^^ rotr (g 0) 13 ^^^ rotr (g 0) 22
  let mj := (g 0 &&& g 1) ^^^ (g 0 &&& g 2) ^^^ (g 1 &&& g 2)
  [(t1 + s0 + mj) % 2 ^ 32, g 0, g 1, g 2, (g 3 + t1) % 2 ^ 32, g 4, g 5, g 6]

/-- The compression of one block of 64 bytes. -/
def shaBlock (h : List Nat) (b : List Byte) : List Nat :=
  let start := ((upTo 16).map fun i => beValue ((b.drop (4 * i)).take 4)).reverse
  let ws := ((upTo 48).foldl (fun ws _ => shaNextWord ws :: ws) start).reverse
  let v := (ws.zipIdx).foldl (fun v e => shaRound v (packedWord shaK 64 e.2 + e.1)) h
  List.zipWith (fun a b => (a + b) % 2 ^ 32) h v

/-- SHA-256 of a byte string, as a number. -/
def sha256 (bs : List Byte) : Nat :=
  let n := bs.length
  let msg := bs ++ [0x80] ++ List.replicate ((119 - n % 64) % 64) 0 ++ beBytes 8 (8 * n)
  let h := (upTo (msg.length / 64)).foldl (fun h i => shaBlock h ((msg.drop (64 * i)).take 64)) ((upTo 8).map (packedWord shaInit 8))
  h.foldl (fun a w => a * 2 ^ 32 + w) 0

/-! ### ECDSA P-256 (FIPS 186-5) -/

/-- The field prime. -/
def p256P : Nat := 2 ^ 256 - 2 ^ 224 + 2 ^ 192 + 2 ^ 96 - 1

/-- The group order. -/
def p256N : Nat := 0xffffffff00000000ffffffffffffffffbce6faada7179e84f3b9cac2fc632551

/-- The curve coefficient b. -/
def p256B : Nat := 0x5ac635d8aa3a93e7b3ebbd55769886bc651d06b0cc53b0f63bce3c3e27d2604b

/-- The base point. -/
def p256G : Nat × Nat :=
  (0x6b17d1f2e12c4247f8bce6e563a440f277037d812deb33a0f4a13945d898c296, 0x4fe342e2fe1a7f9b8ee7eb4a7c0f9e162bce33576b315ececbb6406837bf51f5)

/-- `b` to the power `e` modulo `m`, over the lowest `n` bits of `e`. -/
def powMod (m b : Nat) : Nat → Nat → Nat
  | 0, _ => 1
  | n + 1, e =>
    let r := powMod m (b * b % m) n (e / 2)
    if e % 2 = 1 then r * b % m else r

/-- The inverse modulo a 256-bit prime. -/
def invMod (m a : Nat) : Nat := powMod m (a % m) 256 (m - 2)

/-- The chord or tangent through two points with a slope. -/
def p256Chord (l x1 y1 x2 : Nat) : Nat × Nat :=
  let p := p256P
  let x3 := (l * l + 2 * p - x1 - x2) % p
  (x3, (l * (x1 + p - x3) + p - y1) % p)

/-- The sum of two points; none is the point at infinity. -/
def p256Add (a b : Option (Nat × Nat)) : Option (Nat × Nat) :=
  match a, b with
  | none, q => q
  | q, none => q
  | some (x1, y1), some (x2, y2) =>
    let p := p256P
    if x1 = x2 then
      if (y1 + y2) % p = 0 then none
      else some (p256Chord ((3 * x1 * x1 + p - 3) * invMod p (2 * y1) % p) x1 y1 x2)
    else some (p256Chord ((y2 + p - y1) * invMod p (x2 + p - x1) % p) x1 y1 x2)

/-- `k` times a point, over the lowest `n` bits of `k`. -/
def p256Mul (q : Option (Nat × Nat)) : Nat → Nat → Option (Nat × Nat)
  | 0, _ => none
  | n + 1, k =>
    let r := p256Mul (p256Add q q) n (k / 2)
    if k % 2 = 1 then p256Add r q else r

/-- Whether a pair of coordinates is a point of the curve. -/
def p256On (q : Nat × Nat) : Bool :=
  decide (q.1 < p256P) && decide (q.2 < p256P) &&
    q.2 * q.2 % p256P == (q.1 * q.1 * q.1 + 3 * (p256P - q.1) + p256B) % p256P

/-- Whether (r, s) is a signature of a hash under a public key. -/
def ecdsaHolds (key : Nat × Nat) (hash r s : Nat) : Bool :=
  let n := p256N
  if r = 0 ∨ n ≤ r ∨ s = 0 ∨ n ≤ s ∨ !p256On key then false
  else
    let w := invMod n s
    match p256Add (p256Mul (some p256G) 256 (hash % n * w % n)) (p256Mul (some key) 256 (r * w % n)) with
    | some (x, _) => x % n == r
    | none => false

end Sys2Proof.Machine
end

