-- ==== Sys2Proof/Machine/Operands.lean ====
section
/-! DEFINITION. The operands of the commands: their numbers in the spec's tables, and the fields of the frames that commands carry. -/

namespace Sys2Proof.Machine

open Sys2Proof

/-- The transport codes of EV020 (Table 17-5). -/
def transportCode : Transport → Nat
  | .can => 0 | .vexlink => 1 | .svc => 2

/-- REASON of a refused record (R391). -/
def verdictReason : HandoverVerdict → Nat
  | .accepted | .reread => 0 | .version => 1 | .seal => 2 | .criticalSection => 3 | .content => 4 | .timeout => 5

/-- The device state that a value of STATE_REQUEST names (R320). -/
def requestedState : Nat → DevState
  | 0 => .park | 1 => .standby | 2 => .ready | 3 => .lit | _ => .service

/-- The bits of a set of wake sources (Table 18-7). -/
def wakeList (w : WakeBits) : List Nat :=
  let all : List (Nat × Bool) := [(0, w.can), (1, w.lightOn), (2, w.limpN), (3, w.vinRise), (4, w.timer), (5, w.vexlink)]
  (all.filter fun e => e.2).map (·.1)

/-- The RECORD code of a record (R424); 15 stands for CAN_ADDR_LAST, 16 for UNLOCK_COUNT and 17 for EV_SEVERITY, to which the
spec gives no code. -/
def recordCode : RecordId → Nat
  | .persist => 0 | .gzStore => 1 | .defectMap => 2 | .gpTable => 3 | .storeHeader => 4 | .surface0 => 5 | .parkImage => 6
  | .crossList => 7 | .fbImage i => 8 + i.val | .slotA => 12 | .slotB => 13 | .keys => 14 | .canAddrLast => 15
  | .unlockCount => 16 | .severities => 17
  | .zone z => 0x100 + z.val

/-- The number of a failure in VX_LANE_STATUS and EV102 (Table 15-34, R424). -/
def laneFailNum : LaneFail → Nat
  | .noLock => 1 | .noComma => 2 | .skew => 3 | .widthMismatch => 4 | .dupLane => 5

/-- The number of a stage in EV086 (Table 17-5). -/
def stageNum : CompStage → Nat
  | .statistics => 0 | .limiter => 1 | .write => 2

/-- TYPE of a frame. -/
def SvcFrame.type (f : SvcFrame) : Nat := field f.body 2 1

/-- SEQ of a frame. -/
def SvcFrame.seq (f : SvcFrame) : Nat := field f.body 3 1

/-- LEN of a frame. -/
def SvcFrame.len (f : SvcFrame) : Nat := field f.body 4 2

/-- RETRY of a frame. -/
def SvcFrame.retry (f : SvcFrame) : Bool := bitOf (field f.body 1 1) 6

/-- PAYLOAD of a frame. -/
def SvcFrame.payload (f : SvcFrame) : List Byte := (f.body.drop 6).take (SvcFrame.len f)

/-- Whether a frame ends before its LEN says. -/
def SvcFrame.short (f : SvcFrame) : Bool := decide (f.body.length < 6) || decide (f.body.length < 6 + SvcFrame.len f)

/-- A stranger: an extended identifier, a remote frame, or an identifier from 0x3C0. -/
def CanFrame.stranger (f : CanFrame) : Bool := f.extended || f.remote || decide (0x3C0 ≤ f.id)

/-- The channel of a request: its transport, and on CAN its class. Each holds at most one request in progress and one stored answer
(R291, R292). -/
def reqChannel (r : Req) : Transport × Nat := (r.via, if r.via = .can then r.cls else 0)

end Sys2Proof.Machine
end

