-- ==== Sys2Proof/Machine/Crc.lean ====
section
/-! DEFINITION. Check values: the model of R272 and its presets (Table 13-1). -/

namespace Sys2Proof.Machine

open Sys2Proof

/-- A parameter set of R272. -/
structure CrcParams where
  width  : Nat
  poly   : Nat
  init   : Nat
  refin  : Bool
  refout : Bool
  xorout : Nat
  deriving DecidableEq, Repr

/-- `v` with its `w` bits in reverse order (R272). -/
def revBits : Nat → Nat → Nat
  | 0, _ => 0
  | w + 1, v => v % 2 * 2 ^ w + revBits w (v / 2)

/-- One bit of data entering the register (R272). -/
def crcBit (p : CrcParams) (reg : Nat) (bit : Bool) : Nat :=
  let top := bitOf reg (p.width - 1) != bit
  (reg * 2 % 2 ^ p.width) ^^^ (if top then p.poly else 0)

/-- One byte entering the register, most significant bit first, reversed first under REFIN (R272). -/
def crcByte (p : CrcParams) (reg : Nat) (b : Byte) : Nat :=
  let v := if p.refin then revBits 8 b.toNat else b.toNat
  [7, 6, 5, 4, 3, 2, 1, 0].foldl (fun r i => crcBit p r (bitOf v i)) reg

/-- The check value of a byte string after a fold prefix (R272). -/
def crc (p : CrcParams) (foldBytes data : List Byte) : Nat :=
  let reg := (foldBytes ++ data).foldl (crcByte p) p.init
  (if p.refout then revBits p.width reg else reg) ^^^ p.xorout

/-- Preset CRC32C (0). -/
def crc32cParams : CrcParams := ⟨32, 0x1EDC6F41, 0xFFFFFFFF, true, true, 0xFFFFFFFF⟩

/-- Preset CRC16_1021 (1). -/
def crc16Params : CrcParams := ⟨16, 0x1021, 0xFFFF, false, false, 0⟩

/-- The preset catalogue (Table 13-1). -/
def crcPreset : Nat → Option CrcParams
  | 0 => some crc32cParams
  | 1 => some crc16Params
  | 2 => some ⟨32, 0x04C11DB7, 0xFFFFFFFF, true, true, 0xFFFFFFFF⟩
  | 3 => some ⟨32, 0x04C11DB7, 0xFFFFFFFF, false, false, 0⟩
  | 4 => some ⟨16, 0x1021, 0, true, true, 0⟩
  | 5 => some ⟨16, 0x8005, 0, true, true, 0⟩
  | 6 => some ⟨16, 0x8005, 0xFFFF, true, true, 0⟩
  | 7 => some ⟨8, 0x1D, 0xFF, false, false, 0xFF⟩
  | 8 => some ⟨8, 0x07, 0, false, false, 0⟩
  | _ => none

/-- Whether a parameter set is accepted (R273). -/
def CrcParams.ok (p : CrcParams) : Bool :=
  decide (8 ≤ p.width) && decide (p.width ≤ 32) && p.poly % 2 == 1 && decide (p.poly < 2 ^ p.width) &&
  decide (p.init < 2 ^ p.width) && decide (p.xorout < 2 ^ p.width)

/-- CRC32C of a byte string without fold. -/
def crc32c (bs : List Byte) : Nat := crc crc32cParams [] bs

/-- CRC16_1021 of a byte string without fold. -/
def crc16 (bs : List Byte) : Nat := crc crc16Params [] bs

/-! ### Check values of memories given by their listed cells -/

/-- The product of two registers as polynomials modulo the generator: the one multiplied by the bits of the other, highest first. -/
def crcMul (p : CrcParams) (a b : Nat) : Nat :=
  ((List.range p.width).reverse).foldl (fun acc i => crcBit p acc false ^^^ (if bitOf b i then a else 0)) 0

/-- x to the power `n` modulo the generator; `fuel` bounds the bits of `n`. -/
def crcPower (p : CrcParams) : Nat → Nat → Nat
  | 0, _ => 1
  | fuel + 1, n =>
    if n = 0 then 1
    else
      let h := crcPower p fuel (n / 2)
      if n % 2 = 1 then crcBit p (crcMul p h h) false else crcMul p h h

/-- The register after `k` bytes of 0: each bit multiplies it by x. -/
def crcSkip (p : CrcParams) (k reg : Nat) : Nat := if k = 0 then reg else crcMul p (crcPower p 64 (8 * k)) reg

/-- The register after the bytes from `pos` to below `stop`, given by the cells listed there; the others are 0. -/
def crcWalk (p : CrcParams) (stop : Nat) : List Host.Cell → Nat → Nat → Nat
  | [], pos, reg => crcSkip p (stop - pos) reg
  | c :: m, pos, reg => crcWalk p stop m (c.1 + 1) (crcByte p (crcSkip p (c.1 - pos) reg) c.2)

/-- The register after `n` bytes of a memory from address `a`. -/
def crcCells (p : CrcParams) (m : List Host.Cell) (a n reg : Nat) : Nat :=
  crcWalk p (a + n) (m.filter fun c => decide (a ≤ c.1) && decide (c.1 < a + n)) a reg

/-- CRC32C of `n` bytes of a memory from address `a`. -/
def crc32cMem (m : List Host.Cell) (a n : Nat) : Nat := revBits 32 (crcCells crc32cParams m a n 0xFFFFFFFF) ^^^ 0xFFFFFFFF

/-- A byte string followed by its CRC32C (a seal). -/
def sealed (bs : List Byte) : List Byte := bs ++ u32 (crc32c bs)

/-- Whether a byte string of `n` bytes carries the CRC32C of its first n - 4 in its last 4. -/
def sealHolds (bs : List Byte) : Bool :=
  decide (4 ≤ bs.length) && crc32c (bs.take (bs.length - 4)) == field bs (bs.length - 4) 4

/-- The bytes of a check value of `width` bits, big-endian where `be` (R273). -/
def crcBytes (width cv : Nat) (be : Bool) : List Byte :=
  let bs := leBytes ((width + 7) / 8) cv
  if be then bs.reverse else bs

/-- The result of one request to an engine (R276): status (2 DONE, 3 MATCH, 4 MISMATCH, 5 LENGTH, as CRCS_STATUS), check
value, reported length and output bytes. -/
structure CrcResult where
  status : Nat
  cv     : Nat
  len    : Nat
  out    : List Byte
  deriving DecidableEq, Repr

/-- The three modes of R276 on an input. -/
def crcRun (p : CrcParams) (foldBytes : List Byte) (mode : Nat) (be : Bool) (input : List Byte) : CrcResult :=
  let k := (p.width + 7) / 8
  let n := input.length
  match mode with
  | 0 => let cv := crc p foldBytes input; ⟨2, cv, n, input⟩
  | 1 => let cv := crc p foldBytes input; ⟨2, cv, n + k, input ++ crcBytes p.width cv be⟩
  | _ =>
    if n < k then ⟨5, 0, 0, input⟩
    else
      let cv := crc p foldBytes (input.take (n - k))
      if input.drop (n - k) = crcBytes p.width cv be then ⟨3, cv, n - k, input⟩ else ⟨4, cv, 0, input⟩

end Sys2Proof.Machine
end

