-- ==== Sys2Proof/Machine/Factory.lean ====
section
/-! DEFINITION. The factory content of the calibration store: zone records and store header (Tables 2-10 and 2-11). The spec fixes
the layout and leaves the values to each module: these are the model's (log 2). -/

namespace Sys2Proof.Machine

open Sys2Proof

/-- The factory's record of zone `z` without its seal: IREF_DEFAULT 40, CAL_VALID, GZ_FACTORY 1.0000, VF_REF 3.2276 V, VF_SLOPE
-2,100 uV/K, NB_REF 38,400, gains 1.0, offsets 0, no defect. -/
def factoryBody (z : Nat) : List Byte :=
  padTo 60 (u16 z ++ u8 40 ++ u8 1 ++ u16 16384 ++ u16 32276 ++ s16 (-2100) ++ s16 0 ++ u16 38400 ++ s16 0 ++ u16 32768 ++
    s16 0 ++ u16 32768 ++ u16 0)

/-- The seal of the factory's record of zone `z`. A CRC is affine in the bits of its data, and only the zone number differs. -/
def factorySeal (z : Nat) : Nat :=
  let parts := [0x75BBA45B, 0xEB7748B6, 0xD302E79D, 0xA3E9B9CB, 0x423F0567, 0x847E0ACE, 0x0D10636D, 0x1A20C6DA, 0x34418DB4]
  (parts.zipIdx).foldl (fun v e => if bitOf z e.2 then v ^^^ e.1 else v) 0x88C4008B

/-- The factory's record of zone `z`. -/
def factoryZone (z : Nat) : List Byte := factoryBody z ++ u32 (factorySeal z)

/-- The factory's store header without its seal. The three check values are those of a Gp table of 128, a defect map of GOOD pixels
and the factory's zone records. -/
def factoryHead : List Byte :=
  padTo 4092 (u32 0x43414C31 ++ u16 1 ++ u8 Config.bin ++ u8 0 ++ (upTo 16).map Config.serial ++ u32 0xD98FB278 ++
    u32 0xF032BCF3 ++ u32 0xA25B58E3)

/-- The factory's store header. -/
def factoryHeader : List Byte := sealed factoryHead

/-! ### The calibration store in memory (R41): its cells list each byte exclusive-or the factory's content (log 4) -/

/-- `n` bytes of the factory's zone records from offset `o` in their area. -/
def zoneDefaults (o n : Nat) : List Byte :=
  ((((List.range ((o % 64 + n + 63) / 64)).map fun i => factoryZone (o / 64 + i)).flatten).drop (o % 64)).take n

/-- `n` bytes of the factory's header from offset `o` in it. -/
def headDefaults (o n : Nat) : List Byte :=
  if o + n ≤ 4092 then (factoryHead.drop o).take n else (factoryHeader.drop o).take n

/-- The part of `n` bytes from address `a` that lies from `lo` to below `hi`, given by its offset from `lo` and its length. -/
def areaPart (a n lo hi : Nat) (f : Nat → Nat → List Byte) : List Byte :=
  if max a lo < min (a + n) hi then f (max a lo - lo) (min (a + n) hi - max a lo) else []

/-- The factory's content of `n` bytes of the store from address `a`: Gp 128, every pixel GOOD, zone records, header, reserved space
that reads 0 (Table 2-9). -/
def calDefaults (a n : Nat) : List Byte :=
  areaPart a n 0 0x100000 (fun _ k => List.replicate k 0x80) ++ areaPart a n 0x100000 0x140000 (fun _ k => List.replicate k 0) ++
    areaPart a n 0x140000 0x148000 zoneDefaults ++ areaPart a n 0x148000 0x149000 headDefaults ++
    areaPart a n 0x149000 (a + n) (fun _ k => List.replicate k 0)

/-- `n` bytes of the calibration store from an address. -/
def calRead (m : List Host.Cell) (a n : Nat) : List Byte := List.zipWith (· ^^^ ·) (memRead m a n) (calDefaults a n)

/-- The calibration store with a byte string written at an address; reserved space ignores writes (R41). -/
def calWrite (m : List Host.Cell) (a : Nat) (bs : List Byte) : List Host.Cell :=
  let kept := bs.take (0x149000 - a)
  memWrite m a (List.zipWith (· ^^^ ·) kept (calDefaults a kept.length))

/-- g of pixel number `i` (R39, R41). -/
def gpOf (m : List Host.Cell) (i : Nat) : Nat := (memGet m i ^^^ 0x80).toNat

/-- CRC32C of an area of the store whose factory content has a given CRC32C: a CRC is affine, so that of the content is that of the
factory's changed by the listed differences. -/
def areaCrc (factory : Nat) (m : List Host.Cell) (a n : Nat) : Nat := factory ^^^ revBits 32 (crcCells crc32cParams m a n 0)

/-- CRC32C of the Gp table. -/
def gpCrc (m : List Host.Cell) : Nat := areaCrc 0xD98FB278 m 0 0x100000

/-- CRC32C of the defect map. -/
def defectCrc (m : List Host.Cell) : Nat := areaCrc 0xF032BCF3 m 0x100000 0x40000

/-- CRC32C of the zone records. -/
def zonesCrc (m : List Host.Cell) : Nat := areaCrc 0xA25B58E3 m 0x140000 0x8000

end Sys2Proof.Machine
end

