-- ==== Sys2Proof/Machine/Objects.lean ====
section
/-! DEFINITION. The object dictionary's static part: the attributes of every object (Tables 15-4 to 15-21), the names of
their keys, and their defaults (R307 to R310, R319, R321). -/

namespace Sys2Proof.Machine

open Sys2Proof

/-- Object types (Table 15-1); UQ1.15 is a 16-bit raw integer. -/
inductive ObjType where
  | bool | u8 | u16 | u32 | i16 | i32 | str | dom
  deriving DecidableEq, Repr

/-- Access codes (Table 15-2). -/
inductive ObjAccess where
  | ro | rw | wo | rwp | rws
  deriving DecidableEq, Repr

/-- Apply points (Table 15-3). -/
inductive ObjApply where
  | none | immediate | applyRow | swap | inReady | reset
  deriving DecidableEq, Repr

/-- The Range column: values for a scalar, lengths or a size with its element for a DOMAIN. -/
inductive ObjRange where
  | any
  | span (lo hi : Nat)
  | spanOr (lo hi other : Nat)
  | oneOf (vs : List Nat)
  | step (lo hi by_ : Nat)
  | mask (m : Nat)
  | signed (lo hi : Int)
  | win
  | crcsCfg
  | whole (lo hi : Nat)
  | offset (size elem : Nat)
  deriving DecidableEq, Repr

/-- One object's attributes. -/
structure Obj where
  ty    : ObjType
  acc   : ObjAccess
  lvl   : Level
  dflt  : Nat
  range : ObjRange
  apply : ObjApply
  deriving DecidableEq, Repr

/-- An object's key: index x 256 + subindex. -/
def objKey (index sub : Nat) : Nat := index * 256 + sub

/-- The first index of the repeating block that an index lies in, else the index itself (R307). -/
def blockBase (index : Nat) : Nat :=
  if 0x2210 ≤ index ∧ index ≤ 0x2217 then 0x2210
  else if 0x2310 ≤ index ∧ index ≤ 0x234F then 0x2310
  else if 0x2410 ≤ index ∧ index ≤ 0x242F then 0x2410
  else if 0x2440 ≤ index ∧ index ≤ 0x244F then 0x2440
  else if 0x4010 ≤ index ∧ index ≤ 0x408F then 0x4010
  else index

/-! ### Keys: of single objects in full, of objects of repeating blocks by their subindex -/

/-- `1000:01`. -/
def K.vendor : Nat := 0x100001
/-- `1000:02`. -/
def K.product : Nat := 0x100002
/-- `1000:03`. -/
def K.binObj : Nat := 0x100003
/-- `1000:04`. -/
def K.grade : Nat := 0x100004
/-- `1000:05`. -/
def K.serialObj : Nat := 0x100005
/-- `1000:06`. -/
def K.hwRev : Nat := 0x100006
/-- `1000:07`. -/
def K.fwVersion : Nat := 0x100007
/-- `1000:08`. -/
def K.dictVersion : Nat := 0x100008
/-- `1000:09`. -/
def K.roleObj : Nat := 0x100009
/-- `1100:01`. -/
def K.canAddr : Nat := 0x110001
/-- `1100:02`. -/
def K.canDataRate : Nat := 0x110002
/-- `1100:03`. -/
def K.hbPeriod : Nat := 0x110003
/-- `1100:04`. -/
def K.hostLoss : Nat := 0x110004
/-- `1100:05`. -/
def K.hostAddr : Nat := 0x110005
/-- `1100:06`. -/
def K.syncGroup : Nat := 0x110006
/-- `1100:07`. -/
def K.accessIdle : Nat := 0x110007
/-- `1100:08`. -/
def K.accessLevel : Nat := 0x110008
/-- `1100:09`. -/
def K.unlockCount : Nat := 0x110009
/-- `1100:0A`. -/
def K.keyInt : Nat := 0x11000A
/-- `1100:0B`. -/
def K.keySvc : Nat := 0x11000B
/-- `1100:0C`. -/
def K.canCmd : Nat := 0x11000C
/-- `1100:0D`. -/
def K.canStatus : Nat := 0x11000D
/-- `1100:0E`. -/
def K.canAddrLast : Nat := 0x11000E
/-- `1200:01`. -/
def K.vxRate : Nat := 0x120001
/-- `1200:02`. -/
def K.vxWidth : Nat := 0x120002
/-- `1200:03`. -/
def K.vxTxIdle : Nat := 0x120003
/-- `1200:04`. -/
def K.vxLoss : Nat := 0x120004
/-- `1200:05`. -/
def K.vxDeemph : Nat := 0x120005
/-- `1200:06`. -/
def K.vxLaneStatus : Nat := 0x120006
/-- `1200:07`. -/
def K.vxAddr : Nat := 0x120007
/-- `1200:08`. -/
def K.vxEpoch : Nat := 0x120008
/-- `1200:09`. -/
def K.statusPeriod : Nat := 0x120009
/-- `1200:0A`. -/
def K.monitorStream : Nat := 0x12000A
/-- `1200:0B`. -/
def K.tuneStream : Nat := 0x12000B
/-- `1200:0C`. -/
def K.vxPktStatus : Nat := 0x12000C
/-- `2000:01`. -/
def K.devState : Nat := 0x200001
/-- `2000:02`. -/
def K.stateRequest : Nat := 0x200002
/-- `2000:03`. -/
def K.modHealth : Nat := 0x200003
/-- `2000:04`. -/
def K.parkRetain : Nat := 0x200004
/-- `2000:05`. -/
def K.wakeEnable : Nat := 0x200005
/-- `2000:06`. -/
def K.lastWakeCause : Nat := 0x200006
/-- `2000:07`. -/
def K.sleepResult : Nat := 0x200007
/-- `2000:08`. -/
def K.wakeAlarm : Nat := 0x200008
/-- `2000:09`. -/
def K.resetCmd : Nat := 0x200009
/-- `2000:0A`. -/
def K.lastResetCause : Nat := 0x20000A
/-- `2000:0B`. -/
def K.vinMv : Nat := 0x20000B
/-- `2000:0C`. -/
def K.persistCmd : Nat := 0x20000C
/-- `2000:0D`. -/
def K.persistStatus : Nat := 0x20000D
/-- `2100:01`. -/
def K.frameMin : Nat := 0x210001
/-- `2100:02`. -/
def K.frameMax : Nat := 0x210002
/-- `2100:03`. -/
def K.applyRow : Nat := 0x210003
/-- `2100:04`. -/
def K.lineMatch : Nat := 0x210004
/-- `2100:05`. -/
def K.commitPolicy : Nat := 0x210005
/-- `2100:06`. -/
def K.underrunPolicy : Nat := 0x210006
/-- `2100:07`. -/
def K.frameCountObj : Nat := 0x210007
/-- `2100:08`. -/
def K.displayedTagObj : Nat := 0x210008
/-- `2100:09`. -/
def K.rowSlot : Nat := 0x210009
/-- `2100:0A`. -/
def K.commitStage : Nat := 0x21000A
/-- `2200:01`. -/
def K.bgLevel : Nat := 0x220001
/-- `2200:02`. -/
def K.monitorEnable : Nat := 0x220002
/-- `2200:03`. -/
def K.monitorDivider : Nat := 0x220003
/-- `2200:04`. -/
def K.monitorObj : Nat := 0x220004
/-- `2200:05`. -/
def K.zoneSumObj : Nat := 0x220005
/-- `2240:01`. -/
def K.filterSet0 : Nat := 0x224001
/-- `2240:02`. -/
def K.filterSet1 : Nat := 0x224002
/-- layerEnable: subindex in the block at 2210. -/
def K.layerEnable : Nat := 0x01
/-- blendMode: subindex in the block at 2210. -/
def K.blendMode : Nat := 0x02
/-- layerAlpha: subindex in the block at 2210. -/
def K.layerAlpha : Nat := 0x03
/-- layerLevel: subindex in the block at 2210. -/
def K.layerLevel : Nat := 0x04
/-- srcSurface: subindex in the block at 2210. -/
def K.srcSurface : Nat := 0x05
/-- srcX: subindex in the block at 2210. -/
def K.srcX : Nat := 0x06
/-- srcY: subindex in the block at 2210. -/
def K.srcY : Nat := 0x07
/-- srcW: subindex in the block at 2210. -/
def K.srcW : Nat := 0x08
/-- srcH: subindex in the block at 2210. -/
def K.srcH : Nat := 0x09
/-- dstX: subindex in the block at 2210. -/
def K.dstX : Nat := 0x0A
/-- dstY: subindex in the block at 2210. -/
def K.dstY : Nat := 0x0B
/-- dstW: subindex in the block at 2210. -/
def K.dstW : Nat := 0x0C
/-- dstH: subindex in the block at 2210. -/
def K.dstH : Nat := 0x0D
/-- stepX: subindex in the block at 2210. -/
def K.stepX : Nat := 0x0E
/-- stepY: subindex in the block at 2210. -/
def K.stepY : Nat := 0x0F
/-- orgX: subindex in the block at 2210. -/
def K.orgX : Nat := 0x10
/-- orgY: subindex in the block at 2210. -/
def K.orgY : Nat := 0x11
/-- filtH: subindex in the block at 2210. -/
def K.filtH : Nat := 0x12
/-- filtV: subindex in the block at 2210. -/
def K.filtV : Nat := 0x13
/-- edgeMode: subindex in the block at 2210. -/
def K.edgeMode : Nat := 0x14
/-- notReadyPolicy: subindex in the block at 2210. -/
def K.notReadyPolicy : Nat := 0x15
/-- holdMax: subindex in the block at 2210. -/
def K.holdMax : Nat := 0x16
/-- fallbackSurface: subindex in the block at 2210. -/
def K.fallbackSurface : Nat := 0x17
/-- layerStatus: subindex in the block at 2210. -/
def K.layerStatus : Nat := 0x18
/-- `2300:01`. -/
def K.pagesFree : Nat := 0x230001
/-- `2300:02`. -/
def K.queuePeakObj : Nat := 0x230002
/-- surfBase: subindex in the block at 2310. -/
def K.surfBase : Nat := 0x01
/-- surfSize: subindex in the block at 2310. -/
def K.surfSize : Nat := 0x02
/-- surfFormat: subindex in the block at 2310. -/
def K.surfFormat : Nat := 0x03
/-- surfPtc: subindex in the block at 2310. -/
def K.surfPtc : Nat := 0x04
/-- surfWidth: subindex in the block at 2310. -/
def K.surfWidth : Nat := 0x05
/-- surfHeight: subindex in the block at 2310. -/
def K.surfHeight : Nat := 0x06
/-- surfVerify: subindex in the block at 2310. -/
def K.surfVerify : Nat := 0x07
/-- surfLen: subindex in the block at 2310. -/
def K.surfLen : Nat := 0x08
/-- surfSeal: subindex in the block at 2310. -/
def K.surfSeal : Nat := 0x09
/-- surfCmd: subindex in the block at 2310. -/
def K.surfCmd : Nat := 0x0A
/-- surfImage: subindex in the block at 2310. -/
def K.surfImage : Nat := 0x0B
/-- surfStatus: subindex in the block at 2310. -/
def K.surfStatus : Nat := 0x0C
/-- `2400:01`. -/
def K.kdEnable : Nat := 0x240001
/-- `2400:02`. -/
def K.kdTransients : Nat := 0x240002
/-- boxObj: subindex in the block at 2410. -/
def K.boxObj : Nat := 0x01
/-- `2430:01`. -/
def K.reflexEnable : Nat := 0x243001
/-- `2430:02`. -/
def K.reflexOn : Nat := 0x243002
/-- `2430:03`. -/
def K.reflexOff : Nat := 0x243003
/-- `2430:04`. -/
def K.reflexMinBins : Nat := 0x243004
/-- `2430:05`. -/
def K.reflexDilate : Nat := 0x243005
/-- `2430:06`. -/
def K.reflexHold : Nat := 0x243006
/-- `2430:07`. -/
def K.reflexRoi : Nat := 0x243007
/-- `2430:08`. -/
def K.reflexMaxBoxes : Nat := 0x243008
/-- `2430:09`. -/
def K.reflexBoxes : Nat := 0x243009
/-- `2430:0A`. -/
def K.reflexStatus : Nat := 0x24300A
/-- winX0: subindex in the block at 2440. -/
def K.winX0 : Nat := 0x01
/-- winY0: subindex in the block at 2440. -/
def K.winY0 : Nat := 0x02
/-- winX1: subindex in the block at 2440. -/
def K.winX1 : Nat := 0x03
/-- winY1: subindex in the block at 2440. -/
def K.winY1 : Nat := 0x04
/-- sigMode: subindex in the block at 2440. -/
def K.sigMode : Nat := 0x05
/-- sigArmed: subindex in the block at 2440. -/
def K.sigArmed : Nat := 0x06
/-- sigExpectSelf: subindex in the block at 2440. -/
def K.sigExpectSelf : Nat := 0x07
/-- sigExpected: subindex in the block at 2440. -/
def K.sigExpected : Nat := 0x08
/-- sigActual: subindex in the block at 2440. -/
def K.sigActual : Nat := 0x09
/-- sigState: subindex in the block at 2440. -/
def K.sigState : Nat := 0x0A
/-- sigTransients: subindex in the block at 2440. -/
def K.sigTransients : Nat := 0x0B
/-- `2500:01`. -/
def K.calGp : Nat := 0x250001
/-- `2500:02`. -/
def K.calDefect : Nat := 0x250002
/-- `2500:03`. -/
def K.calZones : Nat := 0x250003
/-- `2500:04`. -/
def K.calHeader : Nat := 0x250004
/-- `2500:05`. -/
def K.zoneBlankMask : Nat := 0x250005
/-- `2500:06`. -/
def K.calStatus : Nat := 0x250006
/-- `2600:01`. -/
def K.senseInterval : Nat := 0x260001
/-- `2600:02`. -/
def K.senseState : Nat := 0x260002
/-- `2600:03`. -/
def K.lumLow : Nat := 0x260003
/-- `2600:04`. -/
def K.lumHigh : Nat := 0x260004
/-- `2600:05`. -/
def K.imbalScreen : Nat := 0x260005
/-- `2600:06`. -/
def K.vfScreen : Nat := 0x260006
/-- `2600:07`. -/
def K.darkScreen : Nat := 0x260007
/-- `2600:08`. -/
def K.mapStreamDiv : Nat := 0x260008
/-- `2600:09`. -/
def K.probeResults : Nat := 0x260009
/-- `2600:0A`. -/
def K.zoneLum : Nat := 0x26000A
/-- `2600:0B`. -/
def K.zoneVf : Nat := 0x26000B
/-- `2600:0C`. -/
def K.zoneVfSweep : Nat := 0x26000C
/-- `2620:01`. -/
def K.mapObj : Nat := 0x262001
/-- `2700:01`. -/
def K.ledBudget : Nat := 0x270001
/-- `2700:02`. -/
def K.vledMode : Nat := 0x270002
/-- `2700:03`. -/
def K.vledFixed : Nat := 0x270003
/-- `2700:04`. -/
def K.headroom : Nat := 0x270004
/-- `2700:05`. -/
def K.vband : Nat := 0x270005
/-- `2700:06`. -/
def K.vledFeLimit : Nat := 0x270006
/-- `2700:07`. -/
def K.vledFeTime : Nat := 0x270007
/-- `2700:08`. -/
def K.limitFactor : Nat := 0x270008
/-- `2700:09`. -/
def K.slewUp : Nat := 0x270009
/-- `2700:0A`. -/
def K.slewDn : Nat := 0x27000A
/-- `2700:0B`. -/
def K.peakLimit : Nat := 0x27000B
/-- `2700:0C`. -/
def K.vledStatus : Nat := 0x27000C
/-- `2700:0D`. -/
def K.limiterStatus : Nat := 0x27000D
/-- `2710:01`. -/
def K.gainSource : Nat := 0x271001
/-- `2710:02`. -/
def K.zloopBand : Nat := 0x271002
/-- `2710:03`. -/
def K.zloopFeLimit : Nat := 0x271003
/-- `2710:04`. -/
def K.zloopFeTime : Nat := 0x271004
/-- `2710:05`. -/
def K.handoverLimit : Nat := 0x271005
/-- `2710:06`. -/
def K.calTcomp : Nat := 0x271006
/-- `2710:07`. -/
def K.gzStorePeriod : Nat := 0x271007
/-- `2710:08`. -/
def K.zloopStatus : Nat := 0x271008
/-- `2720:01`. -/
def K.injTarget : Nat := 0x272001
/-- `2720:02`. -/
def K.injZone : Nat := 0x272002
/-- `2720:03`. -/
def K.injSignal : Nat := 0x272003
/-- `2720:04`. -/
def K.injAmpl : Nat := 0x272004
/-- `2720:05`. -/
def K.injHalf : Nat := 0x272005
/-- `2720:06`. -/
def K.capDecim : Nat := 0x272006
/-- `2720:07`. -/
def K.capCmd : Nat := 0x272007
/-- `2720:08`. -/
def K.capStatus : Nat := 0x272008
/-- `2721:01`. -/
def K.captureObj : Nat := 0x272101
/-- `2800:01`. -/
def K.nearLimit : Nat := 0x280001
/-- `2800:02`. -/
def K.tjDerate : Nat := 0x280002
/-- `2800:03`. -/
def K.tjDerateEnd : Nat := 0x280003
/-- `2800:04`. -/
def K.tjShutdown : Nat := 0x280004
/-- `2800:05`. -/
def K.tctrlShutdown : Nat := 0x280005
/-- `2800:06`. -/
def K.restartHyst : Nat := 0x280006
/-- `2810:01`. -/
def K.tdReadings : Nat := 0x281001
/-- `2810:02`. -/
def K.regionF : Nat := 0x281002
/-- `2810:03`. -/
def K.thermStatus : Nat := 0x281003
/-- `2900:01`. -/
def K.nolightRatio : Nat := 0x290001
/-- `2900:02`. -/
def K.stormLimit : Nat := 0x290002
/-- `2900:03`. -/
def K.transientCounts : Nat := 0x290003
/-- `2900:04`. -/
def K.defectCounts : Nat := 0x290004
/-- `2900:05`. -/
def K.crossListObj : Nat := 0x290005
/-- `2900:06`. -/
def K.healthReason : Nat := 0x290006
/-- `2900:07`. -/
def K.faultAck : Nat := 0x290007
/-- `2900:08`. -/
def K.zoneFaultClear : Nat := 0x290008
/-- `2910:01`. -/
def K.reactDead : Nat := 0x291001
/-- `2910:02`. -/
def K.reactDim : Nat := 0x291002
/-- `2910:03`. -/
def K.reactCross : Nat := 0x291003
/-- `2910:04`. -/
def K.reactStuck : Nat := 0x291004
/-- `2910:05`. -/
def K.reactZoneNormal : Nat := 0x291005
/-- `2910:06`. -/
def K.reactZoneOpen : Nat := 0x291006
/-- `2910:07`. -/
def K.reactKeepDark : Nat := 0x291007
/-- `2910:08`. -/
def K.reactSignature : Nat := 0x291008
/-- `2910:09`. -/
def K.reactHalfLock : Nat := 0x291009
/-- `2910:0A`. -/
def K.reactComposition : Nat := 0x29100A
/-- `2910:0B`. -/
def K.reactPower : Nat := 0x29100B
/-- `2910:0C`. -/
def K.reactZoneFe : Nat := 0x29100C
/-- `2910:0D`. -/
def K.reactPhase : Nat := 0x29100D
/-- `2910:0E`. -/
def K.reactSenseAdc : Nat := 0x29100E
/-- `2920:01`. -/
def K.fbSelect : Nat := 0x292001
/-- `2920:02`. -/
def K.fbBudget : Nat := 0x292002
/-- `2920:03`. -/
def K.fbRenderPeriod : Nat := 0x292003
/-- `2920:04`. -/
def K.fbStatus : Nat := 0x292004
/-- `2920:05`. -/
def K.fbImage0 : Nat := 0x292005
/-- `2920:06`. -/
def K.fbImage1 : Nat := 0x292006
/-- `2920:07`. -/
def K.fbImage2 : Nat := 0x292007
/-- `2920:08`. -/
def K.fbImage3 : Nat := 0x292008
/-- `2A00:01`. -/
def K.auxEnable : Nat := 0x2A0001
/-- `2A00:02`. -/
def K.auxLineTime : Nat := 0x2A0002
/-- `2A00:03`. -/
def K.auxLineBlank : Nat := 0x2A0003
/-- `2A00:04`. -/
def K.auxSinkMa : Nat := 0x2A0004
/-- `2A00:05`. -/
def K.auxMatrix : Nat := 0x2A0005
/-- `2A00:06`. -/
def K.auxChainLen : Nat := 0x2A0006
/-- `2A00:07`. -/
def K.auxChainMode : Nat := 0x2A0007
/-- `2A00:08`. -/
def K.auxSck : Nat := 0x2A0008
/-- `2A00:09`. -/
def K.auxChain : Nat := 0x2A0009
/-- `2A00:0A`. -/
def K.auxStatus : Nat := 0x2A000A
/-- `2B00:01`. -/
def K.crcsCfg : Nat := 0x2B0001
/-- `2B00:02`. -/
def K.crcsPoly : Nat := 0x2B0002
/-- `2B00:03`. -/
def K.crcsInit : Nat := 0x2B0003
/-- `2B00:04`. -/
def K.crcsXorout : Nat := 0x2B0004
/-- `2B00:05`. -/
def K.crcsFold : Nat := 0x2B0005
/-- `2B00:06`. -/
def K.crcsSource : Nat := 0x2B0006
/-- `2B00:07`. -/
def K.crcsSurface : Nat := 0x2B0007
/-- `2B00:08`. -/
def K.crcsStart : Nat := 0x2B0008
/-- `2B00:09`. -/
def K.crcsLength : Nat := 0x2B0009
/-- `2B00:0A`. -/
def K.crcsData : Nat := 0x2B000A
/-- `2B00:0B`. -/
def K.crcsCmd : Nat := 0x2B000B
/-- `2B00:0C`. -/
def K.crcsResult : Nat := 0x2B000C
/-- `2B00:0D`. -/
def K.crcsStatus : Nat := 0x2B000D
/-- `2B00:0E`. -/
def K.scrubCalPeriod : Nat := 0x2B000E
/-- `2B00:0F`. -/
def K.scrubSurfPeriod : Nat := 0x2B000F
/-- `3000:01`. -/
def K.zoneIref : Nat := 0x300001
/-- `3001:01`. -/
def K.zoneGain : Nat := 0x300101
/-- `3002:01`. -/
def K.zoneTemp : Nat := 0x300201
/-- `3003:01`. -/
def K.zoneCurrent : Nat := 0x300301
/-- `3004:01`. -/
def K.zoneState : Nat := 0x300401
/-- `3005:01`. -/
def K.zonePhaseSel : Nat := 0x300501
/-- `4000:01`. -/
def K.eventLatched : Nat := 0x400001
/-- `4000:02`. -/
def K.eventClear : Nat := 0x400002
/-- `4000:03`. -/
def K.eventSeqObj : Nat := 0x400003
/-- evSeverity: subindex in the block at 4010. -/
def K.evSeverity : Nat := 0x01
/-- evMask: subindex in the block at 4010. -/
def K.evMask : Nat := 0x02
/-- evLatch: subindex in the block at 4010. -/
def K.evLatch : Nat := 0x03
/-- evRoute: subindex in the block at 4010. -/
def K.evRoute : Nat := 0x04
/-- evCount: subindex in the block at 4010. -/
def K.evCount : Nat := 0x05
/-- evLast: subindex in the block at 4010. -/
def K.evLast : Nat := 0x06
/-- `4100:01`. -/
def K.logStatus : Nat := 0x410001
/-- `4100:02`. -/
def K.logReadIndex : Nat := 0x410002
/-- `4100:03`. -/
def K.logRecordsObj : Nat := 0x410003
/-- `4100:04`. -/
def K.logMinSeverity : Nat := 0x410004
/-- `4100:05`. -/
def K.thermLogObj : Nat := 0x410005
/-- `4100:06`. -/
def K.logClear : Nat := 0x410006
/-- `4200:01`. -/
def K.fwVersionA : Nat := 0x420001
/-- `4200:02`. -/
def K.fwVersionB : Nat := 0x420002
/-- `4200:03`. -/
def K.activeBank : Nat := 0x420003
/-- `4200:04`. -/
def K.rallyState : Nat := 0x420004
/-- `4200:05`. -/
def K.rallyResult : Nat := 0x420005
/-- `4200:06`. -/
def K.rollbackCounter : Nat := 0x420006
/-- `4200:07`. -/
def K.updateCmd : Nat := 0x420007
/-- `5000:01`. -/
def K.compatEnable : Nat := 0x500001
/-- `5000:02`. -/
def K.ph16kMode : Nat := 0x500002
/-- `5000:03`. -/
def K.ph16kMap : Nat := 0x500003
/-- `5000:04`. -/
def K.compatStatus : Nat := 0x500004

/-! ### The tables, one list a block: subindex and attributes -/

/-- Block 1000. -/
def objBlock1000 : List (Nat × Obj) := [
  (0x01, ⟨.str, .ro, .user, 0, .any, .none⟩),
  (0x02, ⟨.str, .ro, .user, 0, .any, .none⟩),
  (0x03, ⟨.u8, .ro, .user, 0, .any, .none⟩),
  (0x04, ⟨.str, .ro, .user, 0, .any, .none⟩),
  (0x05, ⟨.str, .ro, .user, 0, .any, .none⟩),
  (0x06, ⟨.u16, .ro, .user, 0, .any, .none⟩),
  (0x07, ⟨.u32, .ro, .user, 0, .any, .none⟩),
  (0x08, ⟨.u16, .ro, .user, 1, .any, .none⟩),
  (0x09, ⟨.u8, .ro, .user, 0, .any, .none⟩)]

/-- Block 1100. -/
def objBlock1100 : List (Nat × Obj) := [
  (0x01, ⟨.u8, .rwp, .integrator, 255, .spanOr 0 63 255, .immediate⟩),
  (0x02, ⟨.u8, .rwp, .integrator, 0, .span 0 2, .reset⟩),
  (0x03, ⟨.u16, .rwp, .integrator, 20, .span 10 100, .immediate⟩),
  (0x04, ⟨.u16, .rwp, .integrator, 100, .span 30 1000, .immediate⟩),
  (0x05, ⟨.u8, .rwp, .integrator, 0, .span 0 63, .immediate⟩),
  (0x06, ⟨.u8, .rwp, .integrator, 0, .span 0 63, .immediate⟩),
  (0x07, ⟨.u16, .rwp, .service, 60, .span 10 3600, .immediate⟩),
  (0x08, ⟨.dom, .ro, .user, 0, .any, .none⟩),
  (0x09, ⟨.u32, .ro, .user, 0, .any, .none⟩),
  (0x0A, ⟨.dom, .wo, .service, 0, .whole 32 32, .immediate⟩),
  (0x0B, ⟨.dom, .wo, .service, 0, .whole 32 32, .immediate⟩),
  (0x0C, ⟨.u8, .wo, .user, 0, .span 1 1, .immediate⟩),
  (0x0D, ⟨.dom, .ro, .user, 0, .any, .none⟩),
  (0x0E, ⟨.u8, .ro, .user, 0, .any, .none⟩)]

/-- Block 1200. -/
def objBlock1200 : List (Nat × Obj) := [
  (0x01, ⟨.u8, .rwp, .integrator, 2, .span 0 2, .inReady⟩),
  (0x02, ⟨.u8, .rwp, .integrator, 2, .span 0 2, .inReady⟩),
  (0x03, ⟨.u16, .rwp, .integrator, 100, .span 0 10000, .immediate⟩),
  (0x04, ⟨.u16, .rwp, .integrator, 20, .span 5 1000, .immediate⟩),
  (0x05, ⟨.u8, .rwp, .integrator, 1, .span 0 2, .immediate⟩),
  (0x06, ⟨.dom, .ro, .user, 0, .any, .none⟩),
  (0x07, ⟨.u8, .ro, .user, 0, .any, .none⟩),
  (0x08, ⟨.u8, .ro, .user, 0, .any, .none⟩),
  (0x09, ⟨.u16, .rw, .user, 10, .span 0 1000, .immediate⟩),
  (0x0A, ⟨.bool, .rw, .user, 0, .any, .immediate⟩),
  (0x0B, ⟨.bool, .rw, .integrator, 0, .any, .immediate⟩),
  (0x0C, ⟨.dom, .ro, .user, 0, .any, .none⟩)]

/-- Block 2000. -/
def objBlock2000 : List (Nat × Obj) := [
  (0x01, ⟨.u8, .ro, .user, 0, .any, .none⟩),
  (0x02, ⟨.u8, .rw, .user, 255, .span 0 4, .immediate⟩),
  (0x03, ⟨.u8, .ro, .user, 0, .any, .none⟩),
  (0x04, ⟨.bool, .rwp, .user, 0, .any, .immediate⟩),
  (0x05, ⟨.u8, .rwp, .integrator, 63, .mask 0x3F, .immediate⟩),
  (0x06, ⟨.u8, .ro, .user, 0, .any, .none⟩),
  (0x07, ⟨.u8, .ro, .user, 0, .any, .none⟩),
  (0x08, ⟨.u32, .rw, .user, 0, .span 0 604800, .immediate⟩),
  (0x09, ⟨.u8, .wo, .integrator, 0, .span 1 1, .immediate⟩),
  (0x0A, ⟨.u8, .ro, .user, 0, .any, .none⟩),
  (0x0B, ⟨.u16, .ro, .user, 0, .any, .none⟩),
  (0x0C, ⟨.u8, .wo, .integrator, 0, .span 1 2, .immediate⟩),
  (0x0D, ⟨.dom, .ro, .user, 0, .any, .none⟩)]

/-- Block 2100. -/
def objBlock2100 : List (Nat × Obj) := [
  (0x01, ⟨.u8, .rw, .user, 20, .span 10 160, .applyRow⟩),
  (0x02, ⟨.u8, .rw, .user, 80, .span 10 160, .applyRow⟩),
  (0x03, ⟨.u16, .rw, .user, 480, .span 0 511, .inReady⟩),
  (0x04, ⟨.u16, .rw, .user, 256, .span 0 511, .applyRow⟩),
  (0x05, ⟨.u8, .rw, .user, 0, .span 0 1, .swap⟩),
  (0x06, ⟨.u8, .rw, .user, 0, .span 0 1, .swap⟩),
  (0x07, ⟨.u32, .ro, .user, 0, .any, .none⟩),
  (0x08, ⟨.u32, .ro, .user, 0, .any, .none⟩),
  (0x09, ⟨.u8, .rw, .integrator, 32, .oneOf [32, 64, 128], .inReady⟩),
  (0x0A, ⟨.dom, .rw, .user, 0, .whole 4 836, .immediate⟩)]

/-- Block 2101. -/
def objBlock2101 : List (Nat × Obj) := [
  (0x01, ⟨.u8, .rw, .user, 0, .span 0 15, .swap⟩),
  (0x02, ⟨.u8, .rw, .user, 1, .span 0 15, .swap⟩),
  (0x03, ⟨.u8, .rw, .user, 2, .span 0 15, .swap⟩),
  (0x04, ⟨.u8, .rw, .user, 3, .span 0 15, .swap⟩),
  (0x05, ⟨.u8, .rw, .user, 4, .span 0 15, .swap⟩),
  (0x06, ⟨.u8, .rw, .user, 5, .span 0 15, .swap⟩),
  (0x07, ⟨.u8, .rw, .user, 6, .span 0 15, .swap⟩),
  (0x08, ⟨.u8, .rw, .user, 7, .span 0 15, .swap⟩),
  (0x09, ⟨.u8, .rw, .user, 8, .span 0 15, .swap⟩),
  (0x0A, ⟨.u8, .rw, .user, 9, .span 0 15, .swap⟩),
  (0x0B, ⟨.u8, .rw, .user, 10, .span 0 15, .swap⟩),
  (0x0C, ⟨.u8, .rw, .user, 11, .span 0 15, .swap⟩),
  (0x0D, ⟨.u8, .rw, .user, 12, .span 0 15, .swap⟩),
  (0x0E, ⟨.u8, .rw, .user, 13, .span 0 15, .swap⟩),
  (0x0F, ⟨.u8, .rw, .user, 14, .span 0 15, .swap⟩),
  (0x10, ⟨.u8, .rw, .user, 15, .span 0 15, .swap⟩)]

/-- Block 2200. -/
def objBlock2200 : List (Nat × Obj) := [
  (0x01, ⟨.u16, .rw, .user, 0, .any, .swap⟩),
  (0x02, ⟨.bool, .rw, .user, 0, .any, .immediate⟩),
  (0x03, ⟨.u8, .rw, .user, 1, .span 1 255, .immediate⟩),
  (0x04, ⟨.dom, .ro, .user, 0, .any, .none⟩),
  (0x05, ⟨.dom, .ro, .user, 0, .any, .none⟩)]

/-- Block 2240. -/
def objBlock2240 : List (Nat × Obj) := [
  (0x01, ⟨.dom, .rw, .user, 0, .whole 1536 1536, .swap⟩),
  (0x02, ⟨.dom, .rw, .user, 0, .whole 1536 1536, .swap⟩)]

/-- Block 2210. -/
def objBlock2210 : List (Nat × Obj) := [
  (0x01, ⟨.bool, .rw, .user, 0, .any, .swap⟩),
  (0x02, ⟨.u8, .rw, .user, 0, .span 0 5, .swap⟩),
  (0x03, ⟨.u8, .rw, .user, 255, .any, .swap⟩),
  (0x04, ⟨.u16, .rw, .user, 65535, .any, .swap⟩),
  (0x05, ⟨.u8, .rw, .user, 0, .span 0 63, .swap⟩),
  (0x06, ⟨.u16, .rw, .user, 0, .any, .swap⟩),
  (0x07, ⟨.u16, .rw, .user, 0, .any, .swap⟩),
  (0x08, ⟨.u16, .rw, .user, 1, .any, .swap⟩),
  (0x09, ⟨.u16, .rw, .user, 1, .any, .swap⟩),
  (0x0A, ⟨.i16, .rw, .user, 0, .any, .swap⟩),
  (0x0B, ⟨.i16, .rw, .user, 0, .any, .swap⟩),
  (0x0C, ⟨.u16, .rw, .user, 2048, .any, .swap⟩),
  (0x0D, ⟨.u16, .rw, .user, 512, .any, .swap⟩),
  (0x0E, ⟨.u32, .rw, .user, 0x4000, .any, .swap⟩),
  (0x0F, ⟨.u32, .rw, .user, 0x4000, .any, .swap⟩),
  (0x10, ⟨.i32, .rw, .user, 0, .any, .swap⟩),
  (0x11, ⟨.i32, .rw, .user, 0, .any, .swap⟩),
  (0x12, ⟨.u8, .rw, .user, 0, .span 0 1, .swap⟩),
  (0x13, ⟨.u8, .rw, .user, 0, .span 0 1, .swap⟩),
  (0x14, ⟨.u8, .rw, .user, 0, .span 0 1, .swap⟩),
  (0x15, ⟨.u8, .rw, .user, 1, .span 0 2, .swap⟩),
  (0x16, ⟨.u8, .rw, .user, 0, .any, .swap⟩),
  (0x17, ⟨.u8, .rw, .user, 255, .spanOr 0 63 255, .swap⟩),
  (0x18, ⟨.dom, .ro, .user, 0, .any, .none⟩)]

/-- Block 2300. -/
def objBlock2300 : List (Nat × Obj) := [
  (0x01, ⟨.u16, .ro, .user, 0, .any, .none⟩),
  (0x02, ⟨.u16, .ro, .user, 0, .any, .none⟩)]

/-- Block 2310. -/
def objBlock2310 : List (Nat × Obj) := [
  (0x01, ⟨.u16, .rw, .user, 0, .span 0 3071, .immediate⟩),
  (0x02, ⟨.u32, .rw, .user, 0, .step 0 12582912 4096, .immediate⟩),
  (0x03, ⟨.u8, .rw, .user, 0, .span 0 5, .immediate⟩),
  (0x04, ⟨.u8, .rw, .user, 0, .span 0 1, .immediate⟩),
  (0x05, ⟨.u16, .rw, .user, 1, .span 1 4096, .immediate⟩),
  (0x06, ⟨.u16, .rw, .user, 1, .span 1 4096, .immediate⟩),
  (0x07, ⟨.u8, .rw, .user, 0, .span 0 1, .immediate⟩),
  (0x08, ⟨.u32, .rw, .user, 0, .span 0 12582912, .immediate⟩),
  (0x09, ⟨.u32, .rw, .user, 0, .any, .immediate⟩),
  (0x0A, ⟨.u8, .wo, .user, 0, .span 1 2, .immediate⟩),
  (0x0B, ⟨.dom, .rw, .user, 0, .offset 12582912 1, .immediate⟩),
  (0x0C, ⟨.dom, .ro, .user, 0, .any, .none⟩)]

/-- Block 2400. -/
def objBlock2400 : List (Nat × Obj) := [
  (0x01, ⟨.bool, .rw, .user, 1, .any, .swap⟩),
  (0x02, ⟨.u32, .ro, .user, 0, .any, .none⟩)]

/-- Block 2410. -/
def objBlock2410 : List (Nat × Obj) := [
  (0x01, ⟨.dom, .ro, .user, 0, .any, .none⟩)]

/-- Block 2430. -/
def objBlock2430 : List (Nat × Obj) := [
  (0x01, ⟨.bool, .rw, .integrator, 0, .any, .immediate⟩),
  (0x02, ⟨.u16, .rw, .integrator, 1200, .span 1 4095, .immediate⟩),
  (0x03, ⟨.u16, .rw, .integrator, 900, .span 1 4095, .immediate⟩),
  (0x04, ⟨.u8, .rw, .integrator, 2, .span 1 64, .immediate⟩),
  (0x05, ⟨.u8, .rw, .integrator, 16, .span 0 64, .immediate⟩),
  (0x06, ⟨.u16, .rw, .integrator, 300, .span 0 5000, .immediate⟩),
  (0x07, ⟨.u32, .rw, .integrator, 0x3FFF0000, .mask 0x3FFF3FFF, .immediate⟩),
  (0x08, ⟨.u8, .rw, .integrator, 16, .span 1 16, .immediate⟩),
  (0x09, ⟨.dom, .ro, .user, 0, .any, .none⟩),
  (0x0A, ⟨.dom, .ro, .user, 0, .any, .none⟩)]

/-- Block 2440. -/
def objBlock2440 : List (Nat × Obj) := [
  (0x01, ⟨.u16, .rw, .user, 0, .win, .swap⟩),
  (0x02, ⟨.u16, .rw, .user, 0, .win, .swap⟩),
  (0x03, ⟨.u16, .rw, .user, 0, .win, .swap⟩),
  (0x04, ⟨.u16, .rw, .user, 0, .win, .swap⟩),
  (0x05, ⟨.u8, .rw, .user, 0, .span 0 1, .swap⟩),
  (0x06, ⟨.bool, .ro, .user, 0, .any, .none⟩),
  (0x07, ⟨.bool, .ro, .user, 0, .any, .none⟩),
  (0x08, ⟨.u32, .ro, .user, 0, .any, .none⟩),
  (0x09, ⟨.u32, .ro, .user, 0, .any, .none⟩),
  (0x0A, ⟨.u8, .ro, .user, 0, .any, .none⟩),
  (0x0B, ⟨.u32, .ro, .user, 0, .any, .none⟩)]

/-- Block 2500. -/
def objBlock2500 : List (Nat × Obj) := [
  (0x01, ⟨.dom, .rws, .service, 0, .offset 1048576 1, .inReady⟩),
  (0x02, ⟨.dom, .rws, .service, 0, .offset 262144 1, .immediate⟩),
  (0x03, ⟨.dom, .rws, .service, 0, .offset 32768 64, .inReady⟩),
  (0x04, ⟨.dom, .ro, .user, 0, .any, .none⟩),
  (0x05, ⟨.dom, .rw, .user, 0, .offset 64 1, .immediate⟩),
  (0x06, ⟨.dom, .ro, .user, 0, .any, .none⟩)]

/-- Block 2600. -/
def objBlock2600 : List (Nat × Obj) := [
  (0x01, ⟨.u16, .rw, .user, 64, .spanOr 16 1024 0, .swap⟩),
  (0x02, ⟨.dom, .ro, .user, 0, .any, .none⟩),
  (0x03, ⟨.u16, .rw, .integrator, 2458, .span 1 4095, .immediate⟩),
  (0x04, ⟨.u16, .rw, .integrator, 5734, .span 4097 65535, .immediate⟩),
  (0x05, ⟨.u16, .rw, .integrator, 500, .span 1 1000, .immediate⟩),
  (0x06, ⟨.u16, .rw, .integrator, 300, .span 50 1000, .immediate⟩),
  (0x07, ⟨.u16, .rw, .integrator, 125, .span 1 1000, .immediate⟩),
  (0x08, ⟨.u8, .rw, .user, 0, .any, .immediate⟩),
  (0x09, ⟨.dom, .ro, .user, 0, .any, .none⟩),
  (0x0A, ⟨.dom, .ro, .user, 0, .any, .none⟩),
  (0x0B, ⟨.dom, .ro, .user, 0, .any, .none⟩),
  (0x0C, ⟨.dom, .ro, .user, 0, .any, .none⟩)]

/-- Block 2620. -/
def objBlock2620 : List (Nat × Obj) := [
  (0x01, ⟨.dom, .ro, .user, 0, .any, .none⟩)]

/-- Block 2700. -/
def objBlock2700 : List (Nat × Obj) := [
  (0x01, ⟨.u16, .rwp, .integrator, 560, .span 100 600, .immediate⟩),
  (0x02, ⟨.u8, .rwp, .integrator, 0, .span 0 1, .inReady⟩),
  (0x03, ⟨.u16, .rwp, .integrator, 3600, .step 2900 4200 5, .inReady⟩),
  (0x04, ⟨.u16, .rwp, .integrator, 350, .span 200 800, .immediate⟩),
  (0x05, ⟨.u16, .rwp, .integrator, 20, .span 10 40, .immediate⟩),
  (0x06, ⟨.u16, .rwp, .integrator, 150, .span 50 300, .inReady⟩),
  (0x07, ⟨.u16, .rwp, .integrator, 500, .span 100 5000, .inReady⟩),
  (0x08, ⟨.u16, .ro, .user, 32768, .any, .none⟩),
  (0x09, ⟨.u16, .rwp, .integrator, 50, .span 5 200, .immediate⟩),
  (0x0A, ⟨.u16, .rwp, .integrator, 10, .span 5 200, .immediate⟩),
  (0x0B, ⟨.u16, .rwp, .integrator, 19500, .span 10000 19500, .immediate⟩),
  (0x0C, ⟨.dom, .ro, .user, 0, .any, .none⟩),
  (0x0D, ⟨.dom, .ro, .user, 0, .any, .none⟩)]

/-- Block 2710. -/
def objBlock2710 : List (Nat × Obj) := [
  (0x01, ⟨.u8, .rw, .user, 2, .span 0 2, .immediate⟩),
  (0x02, ⟨.u16, .rwp, .integrator, 15, .span 5 100, .immediate⟩),
  (0x03, ⟨.u16, .rwp, .integrator, 100, .span 20 500, .immediate⟩),
  (0x04, ⟨.u16, .rwp, .integrator, 2000, .span 200 60000, .immediate⟩),
  (0x05, ⟨.u16, .rwp, .integrator, 80, .span 10 500, .immediate⟩),
  (0x06, ⟨.i16, .rwp, .integrator, 1800, .signed (-5000) 5000, .immediate⟩),
  (0x07, ⟨.u16, .rwp, .integrator, 600, .span 60 3600, .immediate⟩),
  (0x08, ⟨.dom, .ro, .user, 0, .any, .none⟩)]

/-- Block 2720. -/
def objBlock2720 : List (Nat × Obj) := [
  (0x01, ⟨.u8, .rw, .integrator, 0, .span 0 2, .immediate⟩),
  (0x02, ⟨.u16, .rw, .integrator, 0, .span 0 511, .immediate⟩),
  (0x03, ⟨.u8, .rw, .integrator, 0, .span 0 2, .immediate⟩),
  (0x04, ⟨.u16, .rw, .integrator, 0, .span 0 327, .immediate⟩),
  (0x05, ⟨.u16, .rw, .integrator, 1, .span 1 1024, .immediate⟩),
  (0x06, ⟨.u16, .rw, .integrator, 1, .span 1 1024, .immediate⟩),
  (0x07, ⟨.u8, .wo, .integrator, 0, .span 1 1, .immediate⟩),
  (0x08, ⟨.dom, .ro, .user, 0, .any, .none⟩)]

/-- Block 2721. -/
def objBlock2721 : List (Nat × Obj) := [
  (0x01, ⟨.dom, .ro, .user, 0, .any, .none⟩)]

/-- Block 2800. -/
def objBlock2800 : List (Nat × Obj) := [
  (0x01, ⟨.u8, .rwp, .integrator, 10, .span 2 30, .immediate⟩),
  (0x02, ⟨.u8, .rwp, .integrator, 125, .span 100 140, .immediate⟩),
  (0x03, ⟨.u8, .rwp, .integrator, 140, .span 110 145, .immediate⟩),
  (0x04, ⟨.u8, .rwp, .integrator, 150, .span 120 150, .immediate⟩),
  (0x05, ⟨.u8, .rwp, .integrator, 135, .span 110 135, .immediate⟩),
  (0x06, ⟨.u8, .rwp, .integrator, 20, .span 5 40, .immediate⟩)]

/-- Block 2810. -/
def objBlock2810 : List (Nat × Obj) := [
  (0x01, ⟨.dom, .ro, .user, 0, .any, .none⟩),
  (0x02, ⟨.dom, .ro, .user, 0, .any, .none⟩),
  (0x03, ⟨.dom, .ro, .user, 0, .any, .none⟩)]

/-- Block 2900. -/
def objBlock2900 : List (Nat × Obj) := [
  (0x01, ⟨.u16, .rwp, .integrator, 819, .span 1 4095, .immediate⟩),
  (0x02, ⟨.u16, .rwp, .integrator, 32, .span 1 1000, .immediate⟩),
  (0x03, ⟨.dom, .ro, .user, 0, .any, .none⟩),
  (0x04, ⟨.dom, .ro, .user, 0, .any, .none⟩),
  (0x05, ⟨.dom, .ro, .user, 0, .any, .none⟩),
  (0x06, ⟨.u32, .ro, .user, 0, .any, .none⟩),
  (0x07, ⟨.u8, .wo, .user, 0, .span 1 1, .immediate⟩),
  (0x08, ⟨.u16, .wo, .integrator, 0, .span 0 511, .immediate⟩)]

/-- Block 2910. -/
def objBlock2910 : List (Nat × Obj) := [
  (0x01, ⟨.u8, .rwp, .integrator, 0, .oneOf [0, 2], .immediate⟩),
  (0x02, ⟨.u8, .rwp, .integrator, 0, .oneOf [0, 2], .immediate⟩),
  (0x03, ⟨.u8, .rwp, .integrator, 0, .oneOf [0], .immediate⟩),
  (0x04, ⟨.u8, .rwp, .integrator, 0, .oneOf [0, 2, 3, 4], .immediate⟩),
  (0x05, ⟨.u8, .rwp, .integrator, 2, .oneOf [2, 3, 4], .immediate⟩),
  (0x06, ⟨.u8, .rwp, .integrator, 4, .oneOf [4], .immediate⟩),
  (0x07, ⟨.u8, .rwp, .integrator, 2, .oneOf [2, 3, 4], .immediate⟩),
  (0x08, ⟨.u8, .rwp, .integrator, 1, .oneOf [1, 2, 3, 4], .immediate⟩),
  (0x09, ⟨.u8, .rwp, .integrator, 0, .oneOf [0, 3, 4], .immediate⟩),
  (0x0A, ⟨.u8, .rwp, .integrator, 3, .oneOf [3, 4], .immediate⟩),
  (0x0B, ⟨.u8, .rwp, .integrator, 3, .oneOf [0, 3, 4], .immediate⟩),
  (0x0C, ⟨.u8, .rwp, .integrator, 0, .oneOf [0, 2], .immediate⟩),
  (0x0D, ⟨.u8, .rwp, .integrator, 0, .oneOf [0, 3, 4], .immediate⟩),
  (0x0E, ⟨.u8, .rwp, .integrator, 0, .oneOf [0, 2], .immediate⟩)]

/-- Block 2920. -/
def objBlock2920 : List (Nat × Obj) := [
  (0x01, ⟨.u8, .rwp, .integrator, 255, .spanOr 0 3 255, .immediate⟩),
  (0x02, ⟨.u16, .rwp, .integrator, 300, .span 100 600, .immediate⟩),
  (0x03, ⟨.u16, .rwp, .integrator, 1000, .span 100 10000, .immediate⟩),
  (0x04, ⟨.dom, .ro, .user, 0, .any, .none⟩),
  (0x05, ⟨.dom, .rws, .service, 0, .whole 65600 65600, .immediate⟩),
  (0x06, ⟨.dom, .rws, .service, 0, .whole 65600 65600, .immediate⟩),
  (0x07, ⟨.dom, .rws, .service, 0, .whole 65600 65600, .immediate⟩),
  (0x08, ⟨.dom, .rws, .service, 0, .whole 65600 65600, .immediate⟩)]

/-- Block 2A00. -/
def objBlock2A00 : List (Nat × Obj) := [
  (0x01, ⟨.u8, .rw, .integrator, 0, .span 0 3, .immediate⟩),
  (0x02, ⟨.u16, .rwp, .integrator, 100, .span 50 400, .immediate⟩),
  (0x03, ⟨.u8, .rwp, .integrator, 5, .span 1 20, .immediate⟩),
  (0x04, ⟨.dom, .rwp, .integrator, 0, .whole 16 16, .immediate⟩),
  (0x05, ⟨.dom, .rw, .user, 0, .offset 256 2, .immediate⟩),
  (0x06, ⟨.u8, .rwp, .integrator, 0, .span 0 48, .immediate⟩),
  (0x07, ⟨.u8, .rwp, .integrator, 0, .span 0 2, .immediate⟩),
  (0x08, ⟨.u16, .rwp, .integrator, 10000, .span 1000 25000, .immediate⟩),
  (0x09, ⟨.dom, .rw, .user, 0, .offset 1536 2, .immediate⟩),
  (0x0A, ⟨.dom, .ro, .user, 0, .any, .none⟩)]

/-- Block 2B00. -/
def objBlock2B00 : List (Nat × Obj) := [
  (0x01, ⟨.u32, .rw, .user, 0x00180020, .crcsCfg, .immediate⟩),
  (0x02, ⟨.u32, .rw, .user, 0x1EDC6F41, .any, .immediate⟩),
  (0x03, ⟨.u32, .rw, .user, 0xFFFFFFFF, .any, .immediate⟩),
  (0x04, ⟨.u32, .rw, .user, 0xFFFFFFFF, .any, .immediate⟩),
  (0x05, ⟨.dom, .rw, .user, 0, .whole 0 8, .immediate⟩),
  (0x06, ⟨.u8, .rw, .user, 0, .span 0 3, .immediate⟩),
  (0x07, ⟨.u8, .rw, .user, 0, .span 0 63, .immediate⟩),
  (0x08, ⟨.u32, .rw, .user, 0, .any, .immediate⟩),
  (0x09, ⟨.u32, .rw, .user, 0, .any, .immediate⟩),
  (0x0A, ⟨.dom, .rw, .user, 0, .whole 0 4096, .immediate⟩),
  (0x0B, ⟨.u8, .wo, .user, 0, .span 1 2, .immediate⟩),
  (0x0C, ⟨.dom, .ro, .user, 0, .any, .none⟩),
  (0x0D, ⟨.dom, .ro, .user, 0, .any, .none⟩),
  (0x0E, ⟨.u16, .rwp, .integrator, 500, .span 100 10000, .immediate⟩),
  (0x0F, ⟨.u16, .rwp, .integrator, 2000, .span 500 60000, .immediate⟩)]

/-- Block 3000. -/
def objBlock3000 : List (Nat × Obj) := [
  (0x01, ⟨.dom, .rwp, .user, 0, .offset 512 1, .swap⟩)]

/-- Block 3001. -/
def objBlock3001 : List (Nat × Obj) := [
  (0x01, ⟨.dom, .ro, .user, 0, .any, .none⟩)]

/-- Block 3002. -/
def objBlock3002 : List (Nat × Obj) := [
  (0x01, ⟨.dom, .ro, .user, 0, .any, .none⟩)]

/-- Block 3003. -/
def objBlock3003 : List (Nat × Obj) := [
  (0x01, ⟨.dom, .ro, .user, 0, .any, .none⟩)]

/-- Block 3004. -/
def objBlock3004 : List (Nat × Obj) := [
  (0x01, ⟨.dom, .ro, .user, 0, .any, .none⟩)]

/-- Block 3005. -/
def objBlock3005 : List (Nat × Obj) := [
  (0x01, ⟨.dom, .rw, .user, 0, .offset 512 1, .swap⟩)]

/-- Block 4000. -/
def objBlock4000 : List (Nat × Obj) := [
  (0x01, ⟨.dom, .ro, .user, 0, .any, .none⟩),
  (0x02, ⟨.u8, .wo, .user, 0, .spanOr 0 127 255, .immediate⟩),
  (0x03, ⟨.u32, .ro, .user, 0, .any, .none⟩)]

/-- Block 4010. -/
def objBlock4010 : List (Nat × Obj) := [
  (0x01, ⟨.u8, .rws, .service, 0, .span 0 3, .immediate⟩),
  (0x02, ⟨.bool, .rwp, .integrator, 0, .any, .immediate⟩),
  (0x03, ⟨.bool, .rwp, .integrator, 0, .any, .immediate⟩),
  (0x04, ⟨.u8, .rwp, .integrator, 0, .mask 0x0F, .immediate⟩),
  (0x05, ⟨.u32, .ro, .user, 0, .any, .none⟩),
  (0x06, ⟨.dom, .ro, .user, 0, .any, .none⟩)]

/-- Block 4100. -/
def objBlock4100 : List (Nat × Obj) := [
  (0x01, ⟨.dom, .ro, .user, 0, .any, .none⟩),
  (0x02, ⟨.u32, .rw, .user, 0, .any, .immediate⟩),
  (0x03, ⟨.dom, .ro, .user, 0, .any, .none⟩),
  (0x04, ⟨.u8, .rwp, .integrator, 0, .span 0 3, .immediate⟩),
  (0x05, ⟨.dom, .ro, .user, 0, .any, .none⟩),
  (0x06, ⟨.u8, .wo, .service, 0, .span 1 1, .immediate⟩)]

/-- Block 4200. -/
def objBlock4200 : List (Nat × Obj) := [
  (0x01, ⟨.u32, .ro, .user, 0, .any, .none⟩),
  (0x02, ⟨.u32, .ro, .user, 0, .any, .none⟩),
  (0x03, ⟨.u8, .ro, .user, 0, .any, .none⟩),
  (0x04, ⟨.u8, .ro, .user, 0, .any, .none⟩),
  (0x05, ⟨.dom, .ro, .user, 0, .any, .none⟩),
  (0x06, ⟨.u32, .ro, .user, 0, .any, .none⟩),
  (0x07, ⟨.u8, .wo, .service, 0, .span 1 3, .immediate⟩)]

/-- Block 5000. -/
def objBlock5000 : List (Nat × Obj) := [
  (0x01, ⟨.bool, .rw, .user, 0, .any, .immediate⟩),
  (0x02, ⟨.u8, .rw, .user, 0, .span 0 127, .immediate⟩),
  (0x03, ⟨.dom, .rw, .user, 0, .offset 16384 1, .immediate⟩),
  (0x04, ⟨.dom, .ro, .user, 0, .any, .none⟩)]

/-- The block of a base index, empty where no block is. -/
def objBlock (base : Nat) : List (Nat × Obj) :=
  match base with
  | 0x1000 => objBlock1000
  | 0x1100 => objBlock1100
  | 0x1200 => objBlock1200
  | 0x2000 => objBlock2000
  | 0x2100 => objBlock2100
  | 0x2101 => objBlock2101
  | 0x2200 => objBlock2200
  | 0x2240 => objBlock2240
  | 0x2210 => objBlock2210
  | 0x2300 => objBlock2300
  | 0x2310 => objBlock2310
  | 0x2400 => objBlock2400
  | 0x2410 => objBlock2410
  | 0x2430 => objBlock2430
  | 0x2440 => objBlock2440
  | 0x2500 => objBlock2500
  | 0x2600 => objBlock2600
  | 0x2620 => objBlock2620
  | 0x2700 => objBlock2700
  | 0x2710 => objBlock2710
  | 0x2720 => objBlock2720
  | 0x2721 => objBlock2721
  | 0x2800 => objBlock2800
  | 0x2810 => objBlock2810
  | 0x2900 => objBlock2900
  | 0x2910 => objBlock2910
  | 0x2920 => objBlock2920
  | 0x2A00 => objBlock2A00
  | 0x2B00 => objBlock2B00
  | 0x3000 => objBlock3000
  | 0x3001 => objBlock3001
  | 0x3002 => objBlock3002
  | 0x3003 => objBlock3003
  | 0x3004 => objBlock3004
  | 0x3005 => objBlock3005
  | 0x4000 => objBlock4000
  | 0x4010 => objBlock4010
  | 0x4100 => objBlock4100
  | 0x4200 => objBlock4200
  | 0x5000 => objBlock5000
  | _ => []

/-- Whether subindexes of a graphic layer's block do not exist (Table 15-10). -/
def graphicGap (index sub : Nat) : Bool := decide (0x2212 ≤ index ∧ index ≤ 0x2217 ∧ 0x0C ≤ sub ∧ sub ≤ 0x14)

/-- The attributes of the object at an index and subindex, none where it does not exist (R307). Subindex 0 is HIGHEST_SUB. -/
def objFind (index sub : Nat) : Option Obj :=
  let blk := objBlock (blockBase index)
  if sub = 0 then
    if blk.isEmpty then none else some ⟨.u8, .ro, .user, maxNat (blk.map (·.1)), .any, .none⟩
  else if graphicGap index sub then none
  else kvGet blk sub

/-- Severity, latch and route of every event that is not reserved (Table 17-2). -/
def evDefaults : List (Nat × Nat × Nat × Nat) := [
  (1, 0, 0, 0x00), (2, 0, 0, 0x00), (3, 0, 0, 0x00), (4, 1, 1, 0x0A), (5, 0, 0, 0x00), (6, 2, 1, 0x0F),
  (7, 0, 0, 0x00), (8, 0, 0, 0x00), (16, 1, 1, 0x0A), (17, 1, 1, 0x0A), (18, 1, 1, 0x0A), (19, 1, 1, 0x0A),
  (20, 1, 1, 0x0A), (32, 0, 0, 0x00), (33, 0, 0, 0x00), (34, 0, 0, 0x08), (35, 1, 1, 0x0A), (36, 1, 1, 0x0B),
  (37, 1, 1, 0x0A), (48, 3, 1, 0x0F), (49, 0, 0, 0x08), (50, 1, 1, 0x0A), (51, 1, 1, 0x0A), (52, 1, 1, 0x0A),
  (53, 2, 1, 0x0F), (54, 1, 1, 0x0A), (55, 2, 1, 0x0F), (56, 0, 0, 0x08), (64, 0, 0, 0x08), (65, 1, 1, 0x0B),
  (66, 3, 1, 0x0F), (67, 1, 1, 0x0A), (68, 0, 0, 0x0B), (80, 1, 1, 0x0A), (81, 2, 1, 0x0F), (82, 2, 1, 0x0F),
  (83, 3, 1, 0x0F), (84, 2, 1, 0x0F), (85, 1, 1, 0x0B), (86, 3, 1, 0x0F), (87, 1, 1, 0x0B), (88, 1, 1, 0x0A),
  (96, 2, 1, 0x0F), (97, 0, 0, 0x08), (98, 1, 1, 0x0A), (99, 2, 1, 0x0E), (100, 2, 1, 0x0F), (101, 2, 1, 0x0F),
  (102, 1, 1, 0x0A), (103, 1, 1, 0x0A), (112, 0, 0, 0x08), (113, 0, 0, 0x08), (114, 0, 0, 0x0B), (115, 1, 1, 0x0B),
  (116, 1, 1, 0x0B), (117, 0, 0, 0x08), (118, 1, 1, 0x0A), (119, 2, 1, 0x0F), (120, 0, 0, 0x0B)]

/-- Default severity, latch and route of event `n`; 0 for a reserved one (R338). -/
def evDefault (n : Nat) : Nat × Nat × Nat := (kvGet evDefaults n).getD (0, 0, 0)

/-- Defaults that depend on the layer (Table 4-2). -/
def layerDefault (n sub d : Nat) : Nat :=
  if n = 0 then
    if sub = K.layerEnable then 1 else if sub = K.blendMode then 5 else if sub = K.srcSurface then 1
    else if sub = K.srcW then 512 else if sub = K.srcH then 128 else if sub = K.notReadyPolicy then 0
    else if sub = K.holdMax then 4 else if sub = K.fallbackSurface then 0 else d
  else d

/-- Defaults that depend on the surface (Table 5-1). -/
def surfDefault (n sub d : Nat) : Nat :=
  if n = 0 then
    if sub = K.surfSize then 65536 else if sub = K.surfWidth then 512 else if sub = K.surfHeight then 128 else d
  else d

/-- The default of a scalar object (Tables 15-4 to 15-21, 4-2, 5-1, 17-2). -/
def objDefault (index sub : Nat) : Nat :=
  let d := match objFind index sub with
    | some o => o.dflt
    | none => 0
  match blockBase index with
  | 0x2210 => layerDefault (index - 0x2210) sub d
  | 0x2310 => surfDefault (index - 0x2310) sub d
  | 0x4010 =>
    let e := evDefault (index - 0x4010)
    if sub = K.evSeverity then e.1 else if sub = K.evLatch then e.2.1 else if sub = K.evRoute then e.2.2 else d
  | _ => d

/-- The number of bytes of a fixed-size type, 0 for STR and DOMAIN. -/
def ObjType.size : ObjType → Nat
  | .bool => 1 | .u8 => 1 | .u16 => 2 | .u32 => 4 | .i16 => 2 | .i32 => 4 | .str => 0 | .dom => 0

/-- A level's number: USER (0), INTEGRATOR (1), SERVICE (2). -/
def Level.num : Level → Nat
  | .user => 0 | .integrator => 1 | .service => 2

/-- Whether CRCS_CFG holds listed values and no reserved bit (Table 13-5). WIDTH counts for CUSTOM only. -/
def crcsCfgOk (v : Nat) : Bool :=
  let preset := bits v 28 4
  (decide (preset ≤ 8) || preset == 15) && decide (bits v 24 4 ≤ 8) && decide (bits v 22 2 ≤ 2) &&
  bits v 6 13 == 0 && (preset != 15 || (decide (8 ≤ bits v 0 6) && decide (bits v 0 6 ≤ 32)))

/-- Check 6 of R311 for a scalar. -/
def Obj.inRange (o : Obj) (sub v : Nat) : Bool :=
  match o.range with
  | .any => o.ty != .bool || decide (v ≤ 1)
  | .span lo hi => decide (lo ≤ v) && decide (v ≤ hi)
  | .spanOr lo hi x => (decide (lo ≤ v) && decide (v ≤ hi)) || v == x
  | .oneOf vs => vs.contains v
  | .step lo hi st => decide (lo ≤ v) && decide (v ≤ hi) && (v - lo) % st == 0
  | .mask m => v &&& m == v
  | .signed lo hi => decide (lo ≤ ofRaw (8 * o.ty.size) v) && decide (ofRaw (8 * o.ty.size) v ≤ hi)
  | .win => if sub % 2 = 1 then decide (v ≤ 2047) else decide (v ≤ 511)
  | .crcsCfg => crcsCfgOk v
  | .whole _ _ => true
  | .offset _ _ => true

/-- Horizontal and vertical linear-interpolation coefficients of one set (R80), in the layout of Table 4-5. -/
def defaultFilterSet : List Byte :=
  (((upTo 64).map fun ph => (upTo 8).map fun t =>
      u16 (if t = 3 then 508 - 8 * ph else if t = 4 then 8 * ph + 4 else 0)).flatten.flatten) ++
  (((upTo 64).map fun ph => (upTo 4).map fun m =>
      u16 (if m = 1 then 508 - 8 * ph else if m = 2 then 8 * ph + 4 else 0)).flatten.flatten)

/-- The default of a writable DOMAIN object (Tables 15-8 to 15-21). ZONE_IREF is seeded from the zone records at boot (R321);
until then it reads the factory's 40. -/
def domDefault (key : Nat) : List Byte :=
  if key = K.filterSet0 ∨ key = K.filterSet1 then defaultFilterSet
  else if key = K.zoneBlankMask then List.replicate 64 0
  else if key = K.auxSinkMa then List.replicate 16 20
  else if key = K.auxMatrix then List.replicate 256 0
  else if key = K.auxChain then List.replicate 1536 0
  else if key = K.zoneIref then List.replicate 512 40
  else if key = K.ph16kMap then List.replicate 16384 0
  else if key = K.zonePhaseSel then (upTo 512).map fun z => BitVec.ofNat 8 ((z + z / 32) % 16)
  else []

/-- The value of a scalar object of a single block, or its default. -/
def State.par (s : State) (key : Nat) : Nat := (kvGet s.dict.vals key).getD (objDefault (key / 256) (key % 256))

/-- The value of object `sub` of the `n`-th block of a repeating range. -/
def State.parN (s : State) (base n sub : Nat) : Nat := s.par (objKey (base + n) sub)

/-- A boolean object. -/
def State.flag (s : State) (key : Nat) : Bool := s.par key != 0

/-- The dictionary values with a scalar replaced, in canonical form: a value equal to its default is not listed. -/
def setPar (vals : List (Nat × Nat)) (key v : Nat) : List (Nat × Nat) :=
  if v = objDefault (key / 256) (key % 256) then kvDel vals key else kvSet vals key v

/-- `s` with a scalar object's value replaced. -/
def State.putPar (s : State) (key v : Nat) : State := s.onDict fun d => { d with vals := setPar d.vals key v }

/-- The bytes of a zone record in force (R41, R44): zone `z` of the calibration store. -/
def State.zoneRec (s : State) (z : Nat) : List Byte := calRead s.chk.cal (0x140000 + 64 * z) 64

/-- The value of a writable DOMAIN object, or its default. -/
def State.dom (s : State) (key : Nat) : List Byte :=
  match kvGet s.dict.doms key with
  | some bs => bs
  | none => domDefault key

/-- `s` with a DOMAIN object's value replaced. -/
def State.putDom (s : State) (key : Nat) (bs : List Byte) : State := s.onDict fun d => { d with doms := kvSet d.doms key bs }

end Sys2Proof.Machine
end

