-- ==== Sys2Proof/Machine/Events.lean ====
section
/-! DEFINITION. The event controller and the log's records: raising an event (R335 to R341), TRANSIENT results (R197, R199),
release and SYSTEM records, the queues of the routes (R263, R297, R345), FAULT_N (R211), and the end of an injection (R179),
which an event of severity 2 or more brings. -/

namespace Sys2Proof.Machine

open Sys2Proof

/-- The number of a device state (Table 15-7). -/
def DevState.num : DevState → Nat
  | .park => 0 | .standby => 1 | .ready => 2 | .lit => 3 | .service => 4 | .fallback => 5 | .safeDark => 6

/-- What a raise brings with it: event, DATA items, whether it is LASTING, its check (row of Table 10-1), and a fixed case of
Table 17-2: severity, and latch and route where the case names them. -/
structure Raise where
  ev      : Nat
  data    : List Byte := []
  lasting : Bool := false
  check   : Nat := 0xFFFF
  fixedSev : Option Nat := none
  fixedLatchRoute : Option (Bool × Nat) := none
  /-- stamped from the slow count (R343). -/
  slowStamp : Bool := false
  /-- the time that AON stamped it with, where that is not the present (R343). -/
  stamp : Option Nat := none
  deriving DecidableEq, Repr

/-- EV_SEVERITY in force (R315, R319). -/
def State.evSeverity (s : State) (n : Nat) : Nat := (kvGet s.flash.severities n).getD (evDefault n).1

/-- EV_MASK of event `n`. -/
def State.evMask (s : State) (n : Nat) : Bool := s.parN 0x4010 n K.evMask != 0

/-- EV_LATCH of event `n`. -/
def State.evLatch (s : State) (n : Nat) : Bool := s.parN 0x4010 n K.evLatch != 0

/-- EV_ROUTE of event `n`. -/
def State.evRoute (s : State) (n : Nat) : Nat := s.parN 0x4010 n K.evRoute

/-- Bytes 0 to 59 of a record of a moment (Table 17-3). -/
def State.recordAt (s : State) (at' seq kind ev sev flags check : Nat) (data : List Byte) : List Byte :=
  u32 seq ++ u64 at' ++ u8 kind ++ u8 ev ++ u8 sev ++ u8 flags ++ u8 s.pwr.dev.num ++ u8 s.flt.health ++ u16 check ++
  u32 s.tim.frameCount ++ (padTo 32 data).take 32 ++ u32 s.flash.bootCount

/-- Bytes 0 to 59 of a record formed now (Table 17-3). -/
def State.recordBody (s : State) (seq kind ev sev flags check : Nat) (data : List Byte) : List Byte :=
  s.recordAt s.now seq kind ev sev flags check data

/-- The FLAGS byte of a record (Table 17-3). -/
def State.recordFlags (s : State) (slowStamp latched lasting : Bool) : Nat :=
  8 * b2n (s.rally.phase == .handover) + 4 * b2n (slowStamp || s.mgmt.reconstructed) + 2 * b2n latched + b2n lasting

/-- A record enters the hardware queue; on overflow it is discarded and counted (R345). The log's own SEQ is set when it is
written. -/
def State.queueLog (s : State) (rcd : List Byte) : State :=
  s.onMgmt fun m =>
    if m.logQueue.length < 64 then { m with logQueue := m.logQueue ++ [rcd] }
    else { m with logDropped := inc32 m.logDropped 1, dropsToNote := m.dropsToNote + 1 }

/-- A record joins the queue of CAN EVENT frames, 8 entries; on overflow the oldest is dropped (R297). -/
def State.queueCanEvent (s : State) (rcd : List Byte) : State :=
  s.onCan fun c =>
    if c.evQueue.length < 8 then { c with evQueue := c.evQueue ++ [rcd] }
    else { c with evQueue := c.evQueue.drop 1 ++ [rcd], evSince := c.evSince + 1, evLost := inc32 c.evLost 1 }

/-- Whether an item of the queue of own packets is an event's record. -/
def OwnItem.isEvent : OwnItem → Bool
  | .event _ => true
  | _ => false

/-- A record joins the queue of own packets as an EVENT packet, 16 such entries; on overflow the oldest is dropped (R263). In CAN-only
operation it is not sent, and counted (R300). -/
def State.queueVxEvent (s : State) (rcd : List Byte) : State :=
  s.onVex fun v =>
    if s.can.canOnly then { v with canOnlyLost := inc32 v.canOnlyLost 1 }
    else if (v.own.filter OwnItem.isEvent).length < 16 then { v with own := v.own ++ [.event rcd] }
    else { v with own := v.own.eraseP OwnItem.isEvent ++ [.event rcd], evSince := v.evSince + 1, evDropped := inc32 v.evDropped 1 }

/-- FAULT_N asserts (R211). -/
def State.assertFault (s : State) : State := s.onFlt fun f => { f with faultN := true, faultAcked := false }

/-- The severity of a raise (R336). -/
def State.raiseSeverity (s : State) (r : Raise) : Nat := r.fixedSev.getD (s.evSeverity r.ev)

/-- The latch of a raise (R335, R338). -/
def State.raiseLatch (s : State) (r : Raise) : Bool :=
  match r.fixedLatchRoute with
  | some (l, _) => l
  | none => s.evLatch r.ev

/-- The route of a raise (R335, R338). -/
def State.raiseRoute (s : State) (r : Raise) : Nat :=
  match r.fixedLatchRoute with
  | some (_, rt) => rt
  | none => s.evRoute r.ev

/-- Step 1 of R335: EV_COUNT and EVENT_SEQ count the raise. The severity with which the event was last raised is kept for a
release record (R340). -/
def State.countEvent (s : State) (r : Raise) : State :=
  s.onMgmt fun m => { m with
    evSeq := inc32 m.evSeq 1,
    evCounts := kvSet m.evCounts r.ev (inc32 ((kvGet m.evCounts r.ev).getD 0) 1),
    lastSev := kvSet m.lastSev r.ev (s.raiseSeverity r) }

/-- Steps 3 and 4 of R335: the latch, and the record in EV_LAST. -/
def State.latchEvent (s : State) (r : Raise) (rcd : List Byte) : State :=
  s.onMgmt fun m => { m with
    latched := if s.raiseLatch r then setAdd m.latched r.ev else m.latched,
    evLast := kvSet m.evLast r.ev (sealed rcd) }

/-- Whether a record of severity `sev` passes LOG_MIN_SEVERITY (R340). -/
def State.logPasses (s : State) (sev : Nat) : Bool := decide (s.par K.logMinSeverity ≤ sev)

/-- Whether a raise has its record written or delivered: to the log under LOG_MIN_SEVERITY, or on a transport (R335, Table 17-4). -/
def State.recordWritten (s : State) (sev route : Nat) : Bool :=
  bitOf route 0 || bitOf route 1 || (bitOf route 3 && s.logPasses sev)

/-- Step 5 of R335: the routes, and FAULT_N (R211). The first record written after a reconstruction has carried its flag (R343). -/
def State.routeEvent (s : State) (rcd : List Byte) (sev route : Nat) : State :=
  let s := if s.recordWritten sev route then s.onMgmt fun m => { m with reconstructed := false } else s
  let s := if bitOf route 0 then s.queueCanEvent (sealed rcd) else s
  let s := if bitOf route 1 then s.queueVxEvent (sealed rcd) else s
  let s := if bitOf route 2 || decide (2 ≤ sev) then s.assertFault else s
  if bitOf route 3 && s.logPasses sev then s.queueLog rcd else s

/-- A raise as the event controller handles it (R335). -/
def State.raiseRaw (s : State) (r : Raise) : State :=
  let sev := s.raiseSeverity r
  let s1 := s.countEvent r
  if s.evMask r.ev then s1
  else
    let rcd := s1.recordAt (r.stamp.getD s.now) s1.mgmt.evSeq 0 r.ev sev (s.recordFlags r.slowStamp (s.raiseLatch r) r.lasting) r.check
      r.data
    (s1.latchEvent r rcd).routeEvent rcd sev (s.raiseRoute r)

/-! ### Injection and capture ends (R179, R180) -/

/-- The CAPTURE record: header and 4,096 samples (R180). -/
def State.captureRecord (s : State) (seq : Nat) (early : Bool) : List Byte :=
  let period := if s.par K.injTarget = 2 then
      (if s.sense.n = 0 ∨ (s.zone (s.par K.injZone)).away.isSome then 64 else s.sense.n) * 204800
    else 204800
  let head := u32 seq ++ u8 (s.par K.injTarget) ++ u8 (s.par K.injSignal) ++ u16 (s.par K.injZone) ++
    u16 (s.par K.capDecim) ++ u16 (s.par K.injAmpl) ++ u32 period ++ u64 s.sup.capStart ++ u8 (b2n early) ++ List.replicate 7 0
  padTo 32800 (head ++ s.sup.capSamples.reverse.flatten)

/-- The capture in progress ends early and keeps the samples taken (R180). -/
def State.stopCapture (s : State) : State :=
  if s.sup.capRunning then
    let rcd := s.captureRecord s.sup.capSeq true
    s.onSup fun u => { u with capRunning := false, capState := 3, capture := rcd }
  else s

/-- Injection stops with a cause (R179): the capture ends early and EV056 is raised. At VLED u acts only at a boundary and is 0 from
here on; at a zone's Gz it stays until the zone's next gain period, its next sample period. -/
def State.stopInjection (s : State) (cause : Nat) : State :=
  if s.sup.injecting || s.sup.injArmed then
    let s := s.stopCapture
    let s := s.onSup fun u => { u with injecting := false, injArmed := false, injU := 0 }
    s.raiseRaw { ev := 56, data := u8 cause }
  else s

/-- A raise, and the end of an injection that an event of severity 2 or more brings (R179). -/
def State.raise (s : State) (r : Raise) : State :=
  let s1 := s.raiseRaw r
  if 2 ≤ s.raiseSeverity r then s1.stopInjection 4 else s1

/-! ### Records that are no events -/

/-- A SYSTEM record (R340): always written, severity 0. Its DATA layout is not stated by the spec: free bytes (log 8). -/
def State.systemRecord (s : State) : State :=
  let (d, s1) := s.drawUnstated 32
  (s1.queueLog (s1.recordBody s1.mgmt.evSeq 3 0xFF 0 (s1.recordFlags false false false) 0xFFFF d)).onMgmt
    fun m => { m with reconstructed := false }

/-- A SYSTEM record whose DATA the spec states (R172). -/
def State.systemRecordWith (s : State) (data : List Byte) : State :=
  (s.queueLog (s.recordBody s.mgmt.evSeq 3 0xFF 0 (s.recordFlags false false false) 0xFFFF data)).onMgmt
    fun m => { m with reconstructed := false }

/-- The RECORD item of a record (R424): its code; free bytes for the three records to which the spec gives none (log 8). -/
def State.recordItem (s : State) (code : Nat) : List Byte × State :=
  if 15 ≤ code ∧ code ≤ 17 then s.drawUnstated 2 else (u16 code, s)

/-- The SYSTEM record that names an absent record by its RECORD code (R282, R424). -/
def State.absentRecord (s : State) (code : Nat) : State := s.systemRecordWith (u16 code)

/-- A release record of an event (R340, R165, R193, R219). -/
def State.releaseRecord (s : State) (ev : Nat) (data : List Byte) : State :=
  let sev := (kvGet s.mgmt.lastSev ev).getD (s.evSeverity ev)
  if s.logPasses sev then
    (s.queueLog (s.recordBody s.mgmt.evSeq 2 ev sev (s.recordFlags false false false) 0xFFFF data)).onMgmt
      fun m => { m with reconstructed := false }
  else s

/-- The checks of Table 10-1 by their row. -/
def chkPixel : Nat := 0
/-- Row 1 of Table 10-1. -/
def chkCurrent : Nat := 1
/-- Row 2 of Table 10-1. -/
def chkComposition : Nat := 2
/-- Row 3 of Table 10-1. -/
def chkKeepDark : Nat := 3
/-- Row 4 of Table 10-1. -/
def chkSignature : Nat := 4
/-- Row 5 of Table 10-1. -/
def chkHalfLock : Nat := 5
/-- Row 6 of Table 10-1. -/
def chkDecode : Nat := 6
/-- Row 7 of Table 10-1. -/
def chkSurface : Nat := 7
/-- Row 8 of Table 10-1. -/
def chkSenseAdc : Nat := 8
/-- Row 9 of Table 10-1. -/
def chkPhase : Nat := 9
/-- Row 10 of Table 10-1. -/
def chkPower : Nat := 10
/-- Row 11 of Table 10-1. -/
def chkPlausible : Nat := 11
/-- Row 12 of Table 10-1. -/
def chkShutdown : Nat := 12
/-- Row 13 of Table 10-1. -/
def chkVledFe : Nat := 13
/-- Row 14 of Table 10-1. -/
def chkZoneFe : Nat := 14
/-- Row 15 of Table 10-1. -/
def chkPacketCrc : Nat := 15
/-- Row 16 of Table 10-1. -/
def chkStored : Nat := 16

/-- EV088 TRANSIENT_STORM (R199): more than TRANSIENT_STORM_LIMIT results of one check within 1 s, at most once per 10 s. -/
def State.judgeStorm (s : State) (check : Nat) : State :=
  let recent := s.flt.recent.filter fun e => decide (s.now < e.2 + 1000000)
  let count := (recent.filter fun e => e.1 == check).length
  let s := s.onFlt fun f => { f with recent := recent }
  let quiet := match kvGet s.flt.storms check with
    | some t => decide (t + 10000000 ≤ s.now)
    | none => true
  if s.par K.stormLimit < count && quiet then
    (s.onFlt fun f => { f with storms := kvSet f.storms check s.now }).raise
      { ev := 88, data := u16 check ++ u32 count }
  else s

/-- The TRANSIENT record of a check at severity 0 (R197, R340). -/
def State.transientRecord (s : State) (check : Nat) (data : List Byte) : State :=
  if s.logPasses 0 then
    (s.queueLog (s.recordBody s.mgmt.evSeq 1 0xFF 0 (s.recordFlags false false false) check data)).onMgmt
      fun m => { m with reconstructed := false }
  else s

/-- A TRANSIENT result (R197): counted, and logged at severity 0 with the two looks' values. Its command judges the storm. -/
def State.noteTransient (s : State) (check : Nat) (data : List Byte) : State :=
  let s := s.onFlt fun f => { f with
    counts := f.counts.modify check (fun c => inc32 c 1), recent := f.recent ++ [(check, s.now)] }
  s.transientRecord check data

/-- A TRANSIENT result judged for a storm at once (R197, R199). -/
def State.transient (s : State) (check : Nat) (data : List Byte) : State := (s.noteTransient check data).judgeStorm check

/-- The storms of the checks that have counted a TRANSIENT result since the counts given: EV088 comes after the lower events of the same
instant (R199, R337). -/
def State.judgeStormsSince (s : State) (counts : List Nat) : State :=
  (upTo 17).foldl (fun s c => if s.flt.counts.getD c 0 = counts.getD c 0 then s else s.judgeStorm c) s

end Sys2Proof.Machine
end

