-- ==== Sys2Proof/Machine/FlashOps.lean ====
section
/-! DEFINITION. What flash holds: the copies of a duplicated record (R281, R282), the fallback images, and the images that the fallback
beam and Campion select (R213, R214, R327). -/

namespace Sys2Proof.Machine

open Sys2Proof

/-! ### Duplicated records (R281, R282) -/

/-- The content of a good copy. -/
def FlashCopy.content {α : Type} : FlashCopy α → Option α
  | .good v => some v
  | _ => none

/-- The content of a duplicated record: copy A where it is good, else copy B (R281). -/
def Dup.value {α : Type} (d : Dup α) : Option α :=
  match d.a.content with
  | some v => some v
  | none => d.b.content

/-- The content of a record with a GEN: of two good copies that differ the one of the higher GEN (R281, point 4). -/
def Dup.newest {α : Type} (d : Dup α) (gen : α → Nat) : Option α :=
  match d.a.content, d.b.content with
  | some x, some y => if gen x < gen y then some y else some x
  | some x, none => some x
  | none, y => y

/-- Whether a copy is erased. -/
def FlashCopy.isErased {α : Type} : FlashCopy α → Bool
  | .erased => true
  | _ => false

/-- Whether a record is unrecoverable: written, and neither copy good (R282). -/
def Dup.lost {α : Type} (d : Dup α) : Bool := d.value.isNone && !(d.a.isErased && d.b.isErased)

/-- Whether a record is absent: both copies erased (R282). -/
def Dup.absent {α : Type} (d : Dup α) : Bool := d.a.isErased && d.b.isErased

/-- A write of a record is due; one in progress starts again from copy A (R281). -/
def State.writeDue (s : State) (code : Nat) : State :=
  s.onFlash fun f => { f with
    due := setAdd f.due code, aDone := setDel f.aDone code, failedOnce := setDel (setDel f.failedOnce (2 * code)) (2 * code + 1) }

/-! ### Seals (R275, R281) -/

/-- A content with the seal that is formed of it. -/
def Sealed.of {α : Type} (value : α → Nat) (v : α) : Sealed α := ⟨v, value v⟩

/-- A copy as its check finds it: its seal is formed again, and one that disagrees makes the copy bad (R280, R281). -/
def FlashCopy.checked {α : Type} (value : α → Nat) : FlashCopy (Sealed α) → FlashCopy α
  | .good r => if r.check = value r.content then .good r.content else .bad
  | .erased => .erased
  | .bad => .bad

/-- Both copies as their checks find them. -/
def Dup.checked {α : Type} (value : α → Nat) (d : Dup (Sealed α)) : Dup α := ⟨d.a.checked value, d.b.checked value⟩

/-- The seal of GZ_STORE: 512 u16 in zone order (R173). -/
def gzValue (l : List Nat) : Nat := crc32c (l.map u16).flatten

/-- The seal of PERSIST (R314). -/
def persistValue (v : PersistRecord) : Nat := crc32c (Config.persistBytes v.gen v.vals v.doms)

/-- The seal of the PARK image (R354). -/
def parkValue (i : ParkImage) : Nat :=
  crc32c (Config.parkBytes i.vals (i.doms ++ i.stage.toList.map fun b => (0, b))
    [i.addr.toList, [i.epoch, i.canAddr], i.latched, i.hostOpen, i.faultOpen, i.stuckHold, i.stuckLook, i.logIndex])

/-- The number of a slot's STATE (R386). -/
def SlotState.num : SlotState → Nat
  | .empty => 0 | .staged => 1 | .active => 2 | .rejected => 3

/-- The seal of a slot record: header, tag table, STORE_GEN, storage tags, and STATE as a u8, whose width R386 does not give. A record
without a header, the factory's and an empty slot's, has bytes that the spec does not state, and its seal stands as 0 (log 39). -/
def slotValue (r : SlotRecord) : Nat :=
  if r.header.isEmpty then 0
  else crc32c (r.header ++ r.tags.flatten ++ u32 r.storeGen ++ r.stored.flatten ++ u8 r.state.num)

/-- GZ_STORE as its checks find it. -/
def Flash.gz (f : Flash) : Dup (List Nat) := f.gzStore.checked gzValue

/-- PERSIST as its checks find it. -/
def Flash.persisted (f : Flash) : Dup PersistRecord := f.persist.checked persistValue

/-- The PARK image as its checks find it. -/
def Flash.park (f : Flash) : Dup ParkImage := f.parkImage.checked parkValue

/-- A slot's record as its checks find it. -/
def Slot.recorded (y : Slot) : Dup SlotRecord := y.copies.checked slotValue

/-- The slot record that a slot's fields form (R386). -/
def Slot.record (y : Slot) : SlotRecord := ⟨y.state, y.header, y.tags, y.storeTags, y.storeGen⟩

/-- A slot as its record in flash gives it, read at a reset (R281, R386). Without a good copy it reads EMPTY (log 39). -/
def Slot.reloaded (y : Slot) : Slot :=
  match y.recorded.value with
  | some r => { y with state := r.state, header := r.header, tags := r.tags, storeTags := r.stored, storeGen := r.storeGen }
  | none => { y with state := .empty }

/-- K_DEV (R386). -/
def keyDev : List Byte := (upTo 32).map Config.keyDev

/-- The nonce under which chunk `i` is stored in a slot (R386): the slot letter, 3 bytes of 0, STORE_GEN and the chunk index. -/
def storeNonce (slotB : Bool) (gen i : Nat) : List Byte := u8 (0x41 + b2n slotB) ++ [0, 0, 0] ++ u32 gen ++ u32 i

/-- The image that a slot stores, its chunks decrypted under K_DEV (R386). No additional data is authenticated with a stored chunk: R386
names none (log 39). -/
def Slot.image (y : Slot) (slotB : Bool) : List (List Byte) :=
  y.chunks.zipIdx.map fun e => (gcmOpen keyDev (storeNonce slotB y.storeGen e.2) [] e.1).1

/-- A bank of Yarrow memory holds the image of its slot (R10, R365, R387). -/
def State.fillBank (s : State) (b : Bool) : State :=
  s.onRally fun r => if b then { r with bankMemB := r.slotB.image true } else { r with bankMemA := r.slotA.image false }

/-- Whether firmware does flash work: it runs, and no Rally hand-over is in progress (R333, Table 17-1). -/
def State.flashWorks (s : State) : Bool := s.pwr.life == .running && s.pwr.dev != .park && s.rally.phase != .handover

/-! ### Images (R213, R214, R327) -/

/-- Image `i` where it is valid (R213, R281). -/
def State.fbImageValue (s : State) (i : Nat) : Option FbImage :=
  match s.flash.fbImages[i]? with
  | some d => d.newest FbImage.gen
  | none => none

/-- Image `i` where it is valid and its ROLE_MASK names the module's role: its number and its data (R214). -/
def State.roleImage (s : State) (i : Nat) : Option (Nat × List Byte) :=
  match s.fbImageValue i with
  | some m => if bitOf m.roleMask s.pwr.role then some (i, m.data) else none
  | none => none

/-- The image a render uses (R214): its number (4 for surface 0) and its data. -/
def State.selectImage (s : State) : Option (Nat × List Byte) :=
  let sel := s.par K.fbSelect
  let named := if sel < 4 then (s.fbImageValue sel).map fun m => (sel, m.data) else none
  match named with
  | some r => some r
  | none =>
    match (upTo 4).findSome? s.roleImage with
    | some r => some r
    | none => s.flash.surface0.value.map fun d => (4, d)

/-- The HIGH image for a LOW image: the first valid one after it in cyclic order whose ROLE_MASK names the module's role, else the LOW
image itself (R327). -/
def State.highImage (s : State) (low : Nat × List Byte) : Nat × List Byte :=
  let order := if low.1 < 4 then (upTo 3).map fun k => (low.1 + 1 + k) % 4 else []
  (order.findSome? s.roleImage).getD low

/-- The image that Campion's BEAM selects (R327): that of LOW (1) or HIGH (2), none where R214 finds no usable image. -/
def State.campionImage (s : State) (beam : Nat) : Option (Nat × List Byte) :=
  s.selectImage.map fun low => if beam = 2 then s.highImage low else low

end Sys2Proof.Machine
end

