-- ==== Sys2Proof/Machine/Flags.lean ====
section
/-! DEFINITION. Status that follows from State: which state sensing is in (R150), the criteria of MOD_HEALTH (R210, R323),
the VIN derating factor (R22), the budgets in force (R160), and the fields of zone records (Table 2-10). -/

namespace Sys2Proof.Machine

open Sys2Proof

/-- Whether the module is in LIT or FALLBACK. -/
def State.lighting (s : State) : Bool := s.pwr.dev == .lit || s.pwr.dev == .fallback

/-- SENSE_STATE STATE (Table 15-34): ACTIVE (0), STOPPING (1), OFF (2), SUSPENDED (3) (R148, R150). -/
def State.senseState (s : State) : Nat :=
  if !s.lighting then 3
  else if s.sense.n = 0 then 2
  else if s.sense.stagedN = some 0 then 1
  else 0

/-- Whether sensing is available at all (R150). -/
def State.sensing (s : State) : Bool := s.senseState == 0

/-- The cadence in force: 0 in SERVICE, whatever SENSE_INTERVAL_CYC holds (R40, R130). -/
def State.cadence (s : State) : Nat := if s.pwr.dev == .service then 0 else s.sense.n

/-- S for a cadence (R40). -/
def senseComp (n : Nat) : Nat := if n = 0 then 32768 else (32768 * n + (n - 1) / 2) / (n - 1)

/-- n_ok (R152). -/
def State.nOk (s : State) : Nat := (s.sup.phases.filter fun p => p.healthy).length

/-- The numbers of the phases that are ON. -/
def State.phasesOn (s : State) : List Nat := (upTo 6).filter fun k => (s.sup.phases.getD k Phase.reset).on

/-! ### Zone records (Table 2-10) -/

/-- IREF_DEFAULT of zone `z`. -/
def State.irefDefault (s : State) (z : Nat) : Nat := field (s.zoneRec z) 2 1

/-- CAL_VALID as every rule that reads it takes it: 0 where VF_SLOPE is 0 or above (R44). -/
def State.calValid (s : State) (z : Nat) : Bool :=
  let r := s.zoneRec z
  bitOf (field r 3 1) 0 && decide (fieldI16 r 8 < 0)

/-- GZ_FACTORY of zone `z`. -/
def State.gzFactory (s : State) (z : Nat) : Nat := field (s.zoneRec z) 4 2

/-- IREF of zone `z` as written to ZONE_IREF (R32). -/
def State.iref (s : State) (z : Nat) : Nat := ((s.dom K.zoneIref).getD z 0).toNat

/-- The zone of a pixel (R5). -/
def zoneOf (x y : Nat) : Nat := 32 * (y / 32) + x / 64

/-- The defect code of a pixel in a calibration store (R42). -/
def defectIn (cal : List Host.Cell) (x y : Nat) : Nat := bits (memGet cal (0x100000 + (2048 * y + x) / 4)).toNat (2 * (x % 4)) 2

/-- The defect state of a pixel (R42). -/
def State.defect (s : State) (x y : Nat) : Nat := defectIn s.chk.cal x y

/-- The pixels whose defect bytes are listed in the store, with their codes; every other pixel is GOOD. -/
def State.defects (s : State) : List (Nat × Nat) :=
  ((s.chk.cal.filter fun c => 0x100000 ≤ c.1 ∧ c.1 < 0x140000).map fun c =>
    (((upTo 4).map fun k => ((c.1 - 0x100000) * 4 + k, bits c.2.toNat (2 * k) 2)).filter fun e => e.2 != 0)).flatten

/-- The aligned 8 x 8 block of a pixel index. -/
def pixelBlock (i : Nat) : Nat := (i / 2048 / 8) * 256 + i % 2048 / 8

/-- The number of listed pixels in the block of pixel `i`. -/
def blockCount (px : List Nat) (i : Nat) : Nat := px.countP fun j => pixelBlock j == pixelBlock i

/-- Whether a block holds at least `n` of the listed pixels. -/
def blocksWith (px : List Nat) (n : Nat) : Bool := px.any fun i => n ≤ blockCount px i

/-- Whether a block holds 2 or 3 of the listed pixels (Table 10-5). -/
def blocksDegraded (px : List Nat) : Bool := px.any fun i => 2 ≤ blockCount px i && blockCount px i ≤ 3

/-! ### VIN derating and budgets (R22, R160) -/

/-- F_VIN as a pair numerator, denominator: 1 at 8.0 V and above, 0.4 at 6.0 V, linear between (R22). Below 6.0 V the line is
carried on to no less than 0. -/
def fVin (vinMv : Nat) : Nat × Nat :=
  if 8000 ≤ vinMv then (1, 1) else (((4 * 2000 + 6 * (vinMv - 6000)) - 6 * (6000 - vinMv)), 20000)

/-- The module budget B in 0.1 W, rounded down (R160). -/
def State.budgetB (s : State) : Nat := s.par K.ledBudget * (fVin s.pwr.vinMv).1 / (fVin s.pwr.vinMv).2

/-- PK in mA (R160). -/
def State.peakPk (s : State) : Nat := min (s.par K.peakLimit) (3250 * s.nOk)

/-- F_16 as the limiter uses it: held at no more than 16,384 under the thermal hold (R196). -/
def State.moduleFactor (s : State) : Nat :=
  let f := (s.therm.regions.getD 16 Region.reset).f
  if s.therm.fbHold then min f 16384 else f

/-- F_r of region `r` as the module uses and reports it, with the thermal hold of F_16 (R191, R196). -/
def State.regionF (s : State) (r : Nat) : Nat := if r = 16 then s.moduleFactor else (s.therm.regions.getD r Region.reset).f

/-- The budget B_r of a region in 0.1 W, none while it is not derating (R190 to R192, R196). -/
def State.regionBudget (s : State) (r : Nat) : Option Nat :=
  let g := s.therm.regions.getD r Region.reset
  if r = 16 then (if s.moduleFactor < 32768 then some (s.moduleFactor * s.budgetB / 32768) else none)
  else if g.f < 32768 then some (max 1 (g.f * g.pref / 32768)) else none

/-! ### HEALTH_REASON (Table 15-33) -/

/-- Whether a thermal input is INVALID. -/
def State.thermInvalid (s : State) : Bool :=
  s.therm.diodes.any (fun d => !d.valid) || s.therm.zones.any (fun z => z.mode == .invalid)

/-- Whether a zone is open with cause FAULT (R35, R203). -/
def Zone.faultOpen (z : Zone) : Bool := z.causes.contains .fault || z.stuckHold || z.stuckLook

/-- Whether a cause holds a zone open. -/
def Zone.heldOpen (z : Zone) : Bool := !z.causes.isEmpty || z.stuckHold || z.stuckLook

/-- The sum of DEFECT_FACTORY over the zone records. -/
def State.factoryDefects (s : State) : Nat := sumNat ((upTo 512).map fun z => field (s.zoneRec z) 22 2)

/-- The criteria of Table 10-5 that hold, as bits of HEALTH_REASON (R210, R323). -/
def State.healthBits (s : State) : List Nat :=
  let d := s.defects
  let dead := (d.filter fun e => e.2 == 2).map (·.1)
  let stuck := (d.filter fun e => e.2 == 3).map (·.1)
  let bad := (d.filter fun e => decide (2 ≤ e.2)).map (·.1)
  let degraded := (s.zones.filter fun z => z.degraded).length
  let crit : List (Nat × Bool) := [
    (0, blocksWith bad 4), (1, decide (1024 < bad.length)), (2, decide (8 < stuck.length)), (3, decide (16 < degraded)),
    (4, decide (s.nOk ≤ 2)), (5, s.sup.feSecond), (8, !stuck.isEmpty), (9, blocksDegraded dead),
    (10, decide (s.factoryDefects + 64 < dead.length)), (11, decide (0 < degraded)), (12, s.zones.any Zone.faultOpen),
    (13, decide (s.nOk < 6)), (14, !s.sense.adcFaulty.isEmpty), (15, s.lighting && !s.sensing), (16, s.thermInvalid),
    (17, s.selectImage.isNone)]
  (crit.filter fun c => c.2).map (·.1)

/-- MOD_HEALTH for the criteria that hold; FAILED is latched until reset (R210). -/
def healthOf (was : Nat) (reasons : List Nat) : Nat :=
  if was = 2 ∨ reasons.any (· < 6) then 2 else if reasons.isEmpty then 0 else 1

/-! ### T_MAX and the STATUS payload (Table 12-8) -/

/-- Whether a zone estimate is valid (R185). -/
def ZoneTemp.valid (z : ZoneTemp) : Bool := z.mode == .measured || z.mode == .seeded || z.mode == .substituted

/-- The hottest valid temperature input, 0.1 degrees; the least s16 where none is valid. -/
def State.tMax (s : State) : Int :=
  let ds := (s.therm.diodes.filter fun d => d.valid).map fun d => d.t10
  let zs := (s.therm.zones.filter fun z => z.valid).map fun z => z.t10
  (ds ++ zs).foldl max (-32768)

/-- The STATUS payload, 32 bytes (Table 12-8). -/
def State.statusPayload (s : State) : List Byte :=
  let flags := 32 * b2n s.sensing + 16 * b2n s.therm.derating + 8 * b2n s.sup.limiterActive +
    4 * b2n (s.rally.phase == .handover) + 2 * b2n s.flt.hostPresent + b2n s.vex.lossSeen
  u8 s.pwr.dev.num ++ u8 s.flt.health ++ u8 flags ++ u8 s.pwr.role ++ u32 s.tim.frameCount ++ u32 s.tim.displayedTag ++
  u16 s.tim.disp.limit ++ s16 s.tMax ++ u16 s.mgmt.latched.length ++ u16 0 ++ u64 s.now ++ u32 0

/-- Whether an item of the queue of own packets is a STATUS. -/
def OwnItem.isStatus : OwnItem → Bool
  | .packet p => p.type == 0x21
  | _ => false

/-- A STATUS packet is formed (R263); one still queued is replaced by the newer one. -/
def State.queueStatus (s : State) : State :=
  let p : OwnPacket := ⟨0x21, 0, 0, s.statusPayload⟩
  if s.pwr.link then s.onVex fun v => { v with own := v.own.filter (fun q => !q.isStatus) ++ [.packet p] } else s

end Sys2Proof.Machine
end

