-- ==== Sys2Proof/Machine/VexOps.lean ====
section
/-! DEFINITION. The module's own Vexlink packets: queueing them, segmented deliveries (R260, R261), EVENT packets (R263), the
answers ACK and NAK (R264), credits (R267), CAN frames (R286, R289), and the answers to Grenz requests on every transport (R262,
R289 to R292, R379). -/

namespace Sys2Proof.Machine

open Sys2Proof

/-- The number of a receiver state (Table 15-34). -/
def RxState.num : RxState → Nat
  | .off => 0 | .lock => 1 | .align => 2 | .deskew => 3 | .enum => 4 | .up => 5 | .sleep => 6

/-- The number of a lane state (Table 15-34). -/
def LaneState.num : LaneState → Nat
  | .l0 => 0 | .l1 => 1 | .l2 => 2

/-! ### Forwarding on the output (R230, R252, R253) -/

/-- A header as forwarded: HOPS one higher (R252). -/
def forwarded (b : List Byte) : List Byte := splice b 13 (u8 (field b 13 1 + 1))

/-- A forwarded packet begins on the output (R252); K30.7 ends it where its upstream ends in K30.7 or holds a character error, and where
its link is lost, once that is detected (R230). -/
def Vex.startForward (v : Vex) (f : Forwarding) : Vex :=
  let sent := VxOut.forward (forwarded f.header) :: v.out
  match f.ends with
  | .eop => { v with out := sent, sending := .forwardedPacket }
  | .k30_7 => { v with out := .abort :: sent, sending := .forwardedPacket }
  | .charError _ => { v with out := .abort :: sent, sending := .forwardedPacket }
  | .lost => { v with out := sent, sending := .forwardedPacket, fwdOpen := true }

/-- A packet to forward: it begins at once on a free output, and else its header waits behind those before it. What arrives while an own
packet is sent is held in the forward buffer, and so is what follows it (R252 to R254). -/
def Vex.forward (v : Vex) (b : List Byte) (ends : PacketEnd) : Vex :=
  if v.sending == .nothing && v.txLane == .l0 && v.fwd.isEmpty then v.startForward ⟨b, ends, false⟩
  else { v with fwd := v.fwd ++ [⟨b, ends, v.sending == .ownPacket || v.fwd.any Forwarding.buffered⟩] }

/-- A forwarded packet whose upstream has ended without EOP ends in K30.7, on the output and in the forward buffer (R230, R239). -/
def Vex.endOpen (v : Vex) : Vex :=
  { v with
    out := if v.fwdOpen then .abort :: v.out else v.out, fwdOpen := false
    fwd := v.fwd.map fun f => if f.ends == .lost then { f with ends := .k30_7 } else f }

/-- Before the transmitter stops driving, an own packet in flight completes and forwarded packets complete through their EOP or their K30.7
(R243); what has not ended loses its upstream. -/
def Vex.finish (v : Vex) : Vex :=
  let w := v.endOpen
  { w.fwd.foldl Vex.startForward { w with fwd := [] } with sending := .nothing }

/-! ### Queueing -/

/-- An item joins the queue of own packets, which leave in the order in which they were queued; the insertion buffer of R253 holds
the next two packets of that order (R254, log 25). Without power in the LINK domain nothing is queued (R349). -/
def State.queueOwn (s : State) (x : OwnItem) : State := if s.pwr.link then s.onVex fun v => { v with own := v.own ++ [x] } else s

/-- An own packet joins the queue (R253). -/
def State.sendOwn (s : State) (p : OwnPacket) : State := s.queueOwn (.packet p)

/-- Whether a type is one that CAN-only operation does not send, beside EVENT: MAP, TUNE_DATA, MONITOR (R300). -/
def streamedType (type : Nat) : Bool := type == 0x20 || type == 0x50 || type == 0x51

/-- The EVENT packet of a record, with the count of dropped ones in its TAG (Table 12-4, R263). -/
def eventPacket (dropped : Nat) (rcd : List Byte) : OwnPacket :=
  ⟨0x22, 0, dropped % 65536 * 65536 + (rcd.getD 13 0).toNat, rcd⟩

/-- The next segment of a delivery, and what is left of it (R260). -/
def Delivery.segment (d : Delivery) : OwnPacket × Option Delivery :=
  let n := min 4092 (d.stop - d.next)
  let bs := (d.data.drop (d.next + d.data.length - d.stop)).take n
  let pad := (4 - n % 4) % 4
  let last := d.stop ≤ d.next + n
  (⟨d.type, if last then 4 else 0, d.next, u8 d.id ++ u8 pad ++ u16 d.req ++ bs ++ List.replicate pad 0⟩,
    if last then none else some { d with next := d.next + n })

/-- What leaves of an item as the next packet, and what is left of it: an EVENT packet carries in its TAG the count of those dropped
since the last one sent (R263), a delivery gives its next segment (R260). -/
def OwnItem.form (x : OwnItem) (dropped : Nat) : OwnPacket × Option OwnItem :=
  match x with
  | .packet p => (p, none)
  | .event rcd => (eventPacket dropped rcd, none)
  | .delivery d => (d.segment.1, d.segment.2.map .delivery)

/-- Whether CAN-only operation does not send an item: EVENT packets and streams (R300). -/
def OwnItem.streamed : OwnItem → Bool
  | .packet _ => false
  | .event _ => true
  | .delivery d => streamedType d.type

/-- Whether an item is a delivery of a type. -/
def OwnItem.delivers (x : OwnItem) (type : Nat) : Bool :=
  match x with
  | .delivery d => d.type == type
  | _ => false

/-- CAN-only operation begins: EVENT packets and streams that wait are not sent, and are counted (R300). -/
def State.dropStreams (s : State) : State :=
  let lost := (s.vex.own.filter OwnItem.streamed).length
  s.onVex fun v => { v with own := v.own.filter (fun x => !x.streamed), canOnlyLost := inc32 v.canOnlyLost lost }

/-- A delivery of an object begins (R260, R261). One of a streamed type is skipped while the previous of its type is in
progress. -/
def State.deliver (s : State) (type id req start : Nat) (data : List Byte) : State :=
  if !s.pwr.link then s
  else if s.can.canOnly && streamedType type then s.onVex fun v => { v with canOnlyLost := inc32 v.canOnlyLost 1 }
  else if streamedType type && s.vex.own.any (fun x => x.delivers type) then s
  else s.queueOwn (.delivery ⟨type, id, req, data, start, start + data.length⟩)

/-! ### ACK and NAK (Table 12-7) -/

/-- The payload of an ACK or NAK. -/
def ackPayload (seq type code info : Nat) : List Byte := u16 seq ++ u8 type ++ u8 code ++ u32 info

/-- The window of accepted SEQ values of a kind (R269). -/
def Vex.window (v : Vex) (bro : Bool) : List Nat := if bro then v.dupBro else v.dupUni

/-- An answer to a host packet is sent; the answer of an accepted packet is kept for a duplicate of it while its SEQ is in its window
(R264, R269). -/
def State.answerPacket (s : State) (bro : Bool) (seq : Nat) (p : OwnPacket) : State :=
  (s.onVex fun v => { v with
    answers := if (v.window bro).contains seq then
        (v.answers.filter fun a => !(a.1 == bro && a.2.1 == seq)) ++ [(bro, seq, p)]
      else v.answers }).sendOwn p

/-- A NAK of a host packet. -/
def State.nak (s : State) (bro : Bool) (seq type code info : Nat) : State :=
  s.answerPacket bro seq ⟨0x41, 0, 0, ackPayload seq type code info⟩

/-- An ACK of a host packet that asked for one. -/
def State.ack (s : State) (needAck bro : Bool) (seq type code info : Nat) : State :=
  if needAck then s.answerPacket bro seq ⟨0x42, 0, 0, ackPayload seq type code info⟩ else s

/-- Units of a packet's payload length in the receive buffer (R267). -/
def unitsOf (len : Nat) : Nat := (len + 20 + 255) / 256

/-- Units of the receive buffer are released: CR_TOTAL increases, and a credit set falls due (R267). -/
def State.release (s : State) (units : Nat) : State :=
  if units = 0 then s else s.onVex fun v => { v with crTotal := (v.crTotal + units) % 65536 }

/-! ### CAN frames -/

/-- The data length codes of a CAN FD frame in bytes; the smallest that holds `n` (R289). -/
def canLength (n : Nat) : Nat :=
  if n ≤ 8 then n else if n ≤ 12 then 12 else if n ≤ 16 then 16 else if n ≤ 20 then 20 else if n ≤ 24 then 24
  else if n ≤ 32 then 32 else if n ≤ 48 then 48 else 64

/-- The 8-byte Grenz header (Table 14-3). -/
def grenzHeader (op token index sub flags len last : Nat) : List Byte :=
  u8 op ++ u8 token ++ u16 index ++ u8 sub ++ u8 flags ++ u8 len ++ u8 last

/-- A Grenz frame of a class, padded to its data length code (R286, R289). -/
def grenzFrame (cls addr op token index sub flags : Nat) (data : List Byte) : CanOut :=
  let body := grenzHeader op token index sub flags data.length 0 ++ data
  ⟨cls * 64 + addr, false, padTo (canLength body.length) body⟩

/-- Whether the CAN controller is error-passive (R303; ISO 11898-1). -/
def State.canPassive (s : State) : Bool := decide (127 < s.can.tecErr) || decide (127 < s.can.recErr)

/-- Whether MGMT runs: firmware is up and the module is above PARK (R349, R365). -/
def State.up (s : State) : Bool := s.pwr.life == .running && s.pwr.dev != .park

/-- A frame is sent on CAN, with ESI set while the controller is error-passive (R284). While the controller is bus-off nothing is sent (R303), and after an address clash nothing in classes 6
to 9 and 11 (R302). -/
def State.sendCan (s : State) (f : CanOut) : State :=
  if s.can.busOff || !s.up || s.can.muted && [6, 7, 8, 9, 11].contains (f.id / 64) then s
  else s.onCan fun c => { c with out := { f with esi := s.canPassive } :: c.out }

/-! ### Answers to Grenz requests -/

/-- The class that answers a class (Table 14-2). -/
def answerClass (cls : Nat) : Nat := if 2 ≤ cls ∧ cls ≤ 5 then cls + 4 else 11

/-- A response frame on SVC: START, bytes 2 to 7 + LEN, and FCRC over these (Table 20-1, R379). -/
def svcFrame (addr type seq : Nat) (payload : List Byte) : List Byte :=
  [0xA5, 0xC3] ++ sealed (u8 addr ++ u8 0x80 ++ u8 type ++ u8 seq ++ u16 payload.length ++ payload)

/-- A response on SVC to the frame with a SEQ: CODE and three bytes of 0, then the data of the type (R379). The first response to the last
frame processed is kept for a repeat of it (R380). -/
def State.answerSvc (s : State) (seq type code : Nat) (data : List Byte) : State :=
  if s.up then
    let f := svcFrame s.can.addr type seq (u8 code ++ [0, 0, 0] ++ data)
    (s.onCan fun c => { c with svcResp := f :: c.svcResp }).onRally fun r => { r with
      svcLast := if r.svcLast = some (seq, none) then some (seq, some f) else r.svcLast }
  else s

/-- A response to the SVC frame that is being processed. -/
def State.sendSvc (s : State) (type code : Nat) (data : List Byte) : State := s.answerSvc s.rally.svcSeq type code data

/-- A Grenz frame as bytes; its last header byte holds the pad count on Vexlink (Table 14-3, R262). -/
def grenzBytes (op token index sub flags len last : Nat) (data : List Byte) : List Byte :=
  grenzHeader op token index sub flags len last ++ data

/-- A PARAM_RESP (R262): one Grenz frame padded to a multiple of 4. A segment of a DOMAIN carries its offset in TAG. -/
def paramResp (op token index sub flags len tag pktFlags : Nat) (data : List Byte) : OwnPacket :=
  ⟨0x31, pktFlags, tag, pad4 (grenzBytes op token index sub flags len ((4 - data.length % 4) % 4) data)⟩

/-- A Grenz frame is sent toward the requester on its transport (R262, R289, R379). -/
def State.sendGrenz (s : State) (r : Req) (op index sub flags : Nat) (data : List Byte) : State :=
  match r.via with
  | .can => s.sendCan (grenzFrame (answerClass r.cls) s.can.addr op r.token index sub flags data)
  | .vexlink => s.sendOwn (paramResp op r.token index sub flags data.length 0 0 data)
  | .svc => s.answerSvc r.cls 0x01 0 (grenzBytes op r.token index sub flags data.length 0 data)

/-- A request is answered, and the answer kept for a repeat of it (R290, R292). -/
def State.answer (s : State) (m : GrenzMsg) (op flags : Nat) (data : List Byte) : State :=
  let s1 := s.onCan fun c => { c with
    answered := (c.answered.filter fun a => decide (reqChannel a.1.req ≠ reqChannel m.req)) ++ [(m, ⟨op, flags, data⟩, s.now)] }
  s1.sendGrenz m.req op m.index m.sub flags data

/-- A request succeeds: its OP with bit 7 set, and the data of its answer (R289). -/
def State.reply (s : State) (m : GrenzMsg) (data : List Byte) : State := s.answer m (m.op + 0x80) 0 data

/-- A request fails: ERROR with CODE and INFO (R290). -/
def State.refuse (s : State) (m : GrenzMsg) (code info : Nat) : State :=
  s.answer m 0xFF 0 (u8 code ++ [0, 0, 0] ++ u32 info)

/-- A request is answered BUSY and not applied (R291). -/
def State.busy (s : State) (m : GrenzMsg) : State := s.refuse m 7 0

/-! ### Block transfers -/

/-- Whether the block in hand is the last of its transfer. -/
def Transfer.isLast (t : Transfer) : Bool := decide (t.total ≤ t.done + t.blockData.length)

/-- The BLOCK_ACK of a block that has passed, with FINAL on the last; over Vexlink only the end of a transfer is answered (R262, R295). -/
def Transfer.blockAck (t : Transfer) : Option GrenzOut :=
  if t.req.via = .vexlink ∧ !t.isLast then none
  else some ⟨t.req, 0x14, t.index, t.sub, u8 t.block ++ u8 0 ++ u8 t.blksize ++ u8 (b2n t.isLast) ++ u32 0⟩

/-- A frame toward a requester is sent. -/
def State.sendOut (s : State) (o : Option GrenzOut) : State :=
  match o with
  | some g => s.sendGrenz g.req g.op g.index g.sub 0 g.data
  | none => s

/-- A block of a transfer toward the module has been taken: the next begins, or the transfer is over (R295). -/
def State.nextBlock (s : State) (t : Transfer) : State :=
  s.onCan fun c => { c with
    transfer := if t.isLast then none else some { t with
      done := t.done + t.blockData.length, block := t.block + 1, nextSeq := 1, blockData := [], outOfOrder := false,
      failedOnce := false, firstCrc := none } }

/-- A block of a transfer toward the module has passed: it is acknowledged, and the next begins (R295). -/
def State.ackBlock (s : State) (t : Transfer) : State := (s.sendOut t.blockAck).nextBlock t

/-- Whether a transfer is a read of LOG_RECORDS. -/
def Transfer.readsLog (t : Transfer) : Bool := !t.isWrite && objKey t.index t.sub == K.logRecordsObj

/-- A read of LOG_RECORDS that its transfer has not completed leaves the index of its transport unchanged (R347). -/
def State.dropLogRead (s : State) : State :=
  match s.can.transfer with
  | some t => if t.readsLog then s.onMgmt fun m => { m with logReads := m.logReads.filter fun e => e.1 != t.req.via } else s
  | none => s

end Sys2Proof.Machine
end

