-- ==== Sys2Proof/Machine/Zones.lean ====
section
/-! DEFINITION. Zone anode switches (R33 to R36): opening, the causes that hold a zone open, closing; VLED on and off
(R155, R413). -/

namespace Sys2Proof.Machine

open Sys2Proof

/-! ### The zone counter (R26, R30) -/

/-- o_z in PIXCLK periods of a phase slot (R26). -/
def offsetOf (slot : Nat) : Nat := 256 * slot

/-- The length of a zone's cycle that moves from one slot to another: 4096 and, where they differ, (o_new - o_old) mod 4096 more (R30). -/
def stretchedLength (old new : Nat) : Nat := 4096 + (4096 + offsetOf new - offsetOf old) % 4096

/-- CNT_z at a global count: (count - o_z) mod 4096, and counting on past 4095 through a stretched cycle (R26, R30). -/
def Zone.counter (z : Zone) (count : Nat) : Nat :=
  if z.stretched then 4096 * z.laps + count - offsetOf z.slot else (4096 + count - offsetOf z.slot) % 4096

/-- Whether a zone's cycle in progress ends on the global boundary just reached (R30, R36). -/
def Zone.endsOnBoundary (z : Zone) : Bool := decide (offsetOf z.slot + z.length ≤ 4096 * z.laps)

/-! ### Opening -/

/-- A zone's switch opens at once (R33, IMMEDIATE), at a time. -/
def Zone.openNow (z : Zone) (now : Nat) : Zone :=
  { z with
    closed := false, openAtCycle := false, closing := false, closeGrant := false, closedWhole := false,
    openedAt := if z.closed then now else z.openedAt }

/-- A zone's switch opens at its next cycle beginning (R33, ORDERLY). -/
def Zone.openOrderly (z : Zone) : Zone := { z with openAtCycle := z.closed, closing := false, closeGrant := false }

/-- A zone with a cause added (R35). -/
def Zone.addCause (z : Zone) (c : OpenCause) : Zone := { z with causes := enumAdd z.causes c }

/-- Zones in a list are opened with a cause, IMMEDIATE or ORDERLY (R33, R35). -/
def State.openZones (s : State) (zs : List Nat) (c : OpenCause) (immediate : Bool) : State :=
  s.onZones fun i z =>
    if zs.contains i then (if immediate then (z.addCause c).openNow s.now else (z.addCause c).openOrderly) else z

/-- Every zone is opened with a cause (R33, R35). -/
def State.openAll (s : State) (c : OpenCause) (immediate : Bool) : State :=
  s.onZones fun _ z => if immediate then (z.addCause c).openNow s.now else (z.addCause c).openOrderly

/-! ### Closing -/

/-- A zone that nothing holds open is scheduled to close (R34, R35). Sensing was unavailable for one that is open (R150, R174). -/
def Zone.schedule (z : Zone) : Zone :=
  if z.heldOpen then z else { z with closing := !z.closed || z.openAtCycle, hadSense := z.hadSense && z.closed }

/-- Whether zones may be scheduled to close: VLED is on and its soft start complete (R35, R155). -/
def State.mayClose (s : State) : Bool := s.sup.vledOn && !s.sup.softStart && !s.sup.offDue

/-- A cause of a zone ends; a zone that no cause holds is scheduled to close (R35). -/
def State.endCause (s : State) (i : Nat) (c : OpenCause) : State :=
  let may := s.mayClose
  s.onZone i fun z =>
    let z := { z with causes := enumDel z.causes c }
    if may then z.schedule else z

/-- Whether the condition of a module-wide opening has cleared when VLED completes its soft start (R35, R209, R413). -/
def State.causeCleared (s : State) : OpenCause → Bool
  | .host => false
  | .fault => false
  | .thermal => !s.pwr.dark.contains .thermal
  | .supervisor => !s.sup.ovHold && !s.pwr.dark.contains .supervisor
  | .state => true
  | .reset => true

/-- At the end of a soft start, the module-wide openings whose condition has cleared end, and zones that nothing holds open
are scheduled to close (R34, R35). -/
def State.endModuleWide (s : State) : State :=
  s.onZones fun _ z => { z with causes := z.causes.filter fun c => !s.causeCleared c }.schedule

/-- ZONE_BLANK_MASK in force sets and clears the HOST cause of every zone (R33, R35). -/
def State.applyBlankMask (s : State) : State :=
  let mask := s.dom K.zoneBlankMask
  let may := s.mayClose
  s.onZones fun i z =>
    let set := bitOf (mask.getD (i / 8) 0).toNat (i % 8)
    if set then (if z.causes.contains .host then z else (z.addCause .host).openOrderly)
    else if z.causes.contains .host then
      let z := { z with causes := enumDel z.causes .host }
      if may then z.schedule else z
    else z

/-- VLED is inside its band (R34, R152). -/
def State.vledInBand (s : State) : Bool :=
  decide (s.sup.vset ≤ s.sup.vled + s.par K.vband) && decide (s.sup.vled ≤ s.sup.vset + s.par K.vband)

/-- At a global boundary, at most 64 zones scheduled to close are granted their closing, in ascending order (R34). -/
def State.grantClosings (s : State) : State :=
  let want := (upTo 512).filter fun i => (s.zone i).closing
  let grant := want.take 64
  s.onZones fun i z => { z with closeGrant := grant.contains i }

/-- The number of ZONE_STATE OPEN_CAUSE (Table 15-22): the first cause that holds in the order RESET, SUPERVISOR, THERMAL,
STATE, FAULT, HOST; NONE once the switch is closed (R35). An open
zone that no cause holds any longer, and that waits for its closing, reads NONE too (log 50). -/
def Zone.openCause (z : Zone) : Nat :=
  if z.closed then 0
  else if z.causes.contains .reset then 5
  else if z.causes.contains .supervisor then 4
  else if z.causes.contains .thermal then 3
  else if z.causes.contains .state then 6
  else if z.faultOpen then 2
  else if z.causes.contains .host then 1
  else 0

/-! ### VLED -/

/-- VLED less V_SET, mV (R152). -/
def State.vledError (s : State) : Int := (s.sup.vled : Int) - s.sup.vset

/-- An excursion of VLED that ends before its time has expired is TRANSIENT: counted, and recorded with the direction and the size of its peak
and of the error now (R159, R197). -/
def State.noteExcursion (s : State) : State :=
  let u := s.sup
  let e := s.vledError
  (s.onSup fun u => { u with feRunning := false, feGood := 0, fePeak := 0, feTransients := inc32 u.feTransients 1 }).noteTransient
    chkVledFe (u8 (b2n u.feAbove) ++ u16 u.fePeak ++ u8 (b2n (decide (0 < e))) ++ u16 e.natAbs)

/-- The following-error supervisor runs only while VLED is on (R159): an excursion in progress ends with it. -/
def State.cutExcursion (s : State) : State := if s.sup.feRunning then s.noteExcursion.judgeStorm chkVledFe else s

/-- Every phase is OFF and VLED discharges. -/
def Supply.off (u : Supply) : Supply :=
  { u with
    vledOn := false, softStart := false, offDue := false, vset := 0, vbase := 0
    phases := u.phases.map fun p => { p with on := false }
    feRunning := false, feGood := 0, fePeak := 0 }

/-- Every phase is turned OFF and VLED discharges (R155). -/
def State.vledOff (s : State) : State := s.cutExcursion.onSup Supply.off

/-- VLED soft start begins (R155), unless the overvoltage hold keeps every phase OFF (R413). -/
def State.beginSoftStart (s : State) : State :=
  if s.sup.ovHold || s.sup.vledOn && !s.sup.offDue then s
  else s.cutExcursion.onSup fun u => { u with
    vledOn := true, softStart := true, softAt := s.now, offDue := false, vset := 0, vbase := 0,
    feRunning := false, feGood := 0, fePeak := 0 }

/-- VLED turns off once every zone switch is open, where that is due (R155). -/
def State.vledOffIfOpen (s : State) : State :=
  if s.sup.offDue && s.zones.all (fun z => !z.closed) then s.vledOff else s

/-- Every zone switch opens with a cause, IMMEDIATE, and VLED turns off (R155, R206). -/
def State.goDark (s : State) (c : OpenCause) : State := (s.openAll c true).vledOff

end Sys2Proof.Machine
end

