-- ==== Sys2Proof/Machine/Ptc.lean ====
section
/-! DEFINITION. Image layout and Phingerel tile compression: raw rows (R96), the PTC header, index and tiles (R97, R104 to
R107), and the expansion of source pixels (R72). -/

namespace Sys2Proof.Machine

open Sys2Proof

/-- Bytes of one raw row before padding (R96). Formats: I8 (0), I12 (1), I16 (2), IA88 (3), A8 (4), M1 (5). -/
def rowBytes (fmt w : Nat) : Nat :=
  match fmt with
  | 0 => w
  | 4 => w
  | 2 => 2 * w
  | 3 => 2 * w
  | 1 => 3 * ((w + 1) / 2)
  | _ => (w + 7) / 8

/-- The row pitch P (R96). -/
def rowPitch (fmt w : Nat) : Nat := (rowBytes fmt w + 3) / 4 * 4

/-- The derived length of a raw image (R96). -/
def rawLen (fmt w h : Nat) : Nat := rowPitch fmt w * h

/-- The byte at offset `o` of an image. -/
def imgByte (img : Array Byte) (o : Nat) : Nat := (img.getD o 0).toNat

/-- The little-endian number of `n` bytes at offset `o` of an image. -/
def imgField (img : Array Byte) (o n : Nat) : Nat := leValue ((upTo n).map fun i => img.getD (o + i) 0)

/-- The stored value of raw pixel (x, y) of an image (R96, R72). -/
def rawPixel (img : Array Byte) (fmt w x y : Nat) : Nat :=
  let row := rowPitch fmt w * y
  match fmt with
  | 0 => imgByte img (row + x)
  | 4 => imgByte img (row + x)
  | 2 => imgField img (row + 2 * x) 2
  | 3 => imgField img (row + 2 * x) 2
  | 1 => bits (imgField img (row + 3 * (x / 2)) 3) (12 * (x % 2)) 12
  | _ => bits (imgByte img (row + x / 8)) (x % 8) 1

/-- Intensity s and alpha a_px of a stored value (Table 4-3). -/
def expandPixel (fmt level v : Nat) : Nat × Nat :=
  match fmt with
  | 0 => (v * 257, 255)
  | 1 => (v * 16 + v / 256, 255)
  | 2 => (v, 255)
  | 3 => (v % 256 * 257, v / 256)
  | 4 => (level, v)
  | _ => if v = 1 then (level, 255) else (0, 0)

/-- Bytes of one value of a base format in a tile (R104). -/
def valueBytes (fmt : Nat) : Nat := if fmt = 2 ∨ fmt = 3 then 2 else 1

/-- `n` values from byte `o` of an image, none where they extend beyond its length (Table 5-6). -/
def tileValues (img : Array Byte) (vb o n : Nat) : Option (List Nat) :=
  if o + n * vb ≤ img.size then some ((upTo n).map fun k => imgField img (o + k * vb) vb) else none

/-- The palette index of pixel `i` with `b` bits a pixel (R105). -/
def paletteIndex (map : List Nat) (b i : Nat) : Nat := bits (map.getD (i * b / 8) 0) (i * b % 8) b

/-- A palette tile with 2^b entries: values, then the map (Table 5-5). -/
def paletteTile (img : Array Byte) (vb o b : Nat) : Option (List Nat) := do
  let vals ← tileValues img vb o (2 ^ b)
  let map ← tileValues img 1 (o + 2 ^ b * vb) (16 * b)
  pure ((upTo 128).map fun i => vals.getD (paletteIndex map b i) 0)

/-- The runs of an RLE tile until exactly 128 pixels are covered; `fuel` bounds the number of runs (R105). -/
def rleTile (img : Array Byte) (vb : Nat) : Nat → Nat → Nat → Option (List Nat)
  | 0, _, left => if left = 0 then some [] else none
  | fuel + 1, o, left =>
    if left = 0 then some []
    else do
      let ls ← tileValues img 1 o 1
      let l := ls.getD 0 0
      if 128 ≤ l ∨ left < l + 1 then none
      else do
        let vs ← tileValues img vb (o + 1) 1
        let rest ← rleTile img vb fuel (o + 1 + vb) (left - (l + 1))
        pure (List.replicate (l + 1) (vs.getD 0 0) ++ rest)

/-- A 4-bit number as a signed one (R106). -/
def nibbleDelta (n : Nat) : Int := if n < 8 then n else (n : Int) - 16

/-- One pixel of a DELTA tile predicted from a value (R106), none where it is out of range. -/
def deltaValue (fmt pred : Nat) (d : Int) : Option Nat :=
  if fmt = 3 then
    let v := (pred % 256 : Nat) + d
    if 0 ≤ v ∧ v ≤ 255 then some (pred / 256 * 256 + v.toNat) else none
  else
    let v := (pred : Int) + d
    let top : Int := if fmt = 2 then 65535 else 255
    if 0 ≤ v ∧ v ≤ top then some v.toNat else none

/-- The pixels of a DELTA tile from pixel `i` on (R106). `done` holds pixels 0 to i - 1; `esc` is the offset of the next escape
value. -/
def deltaPixels (img : Array Byte) (fmt shift stream : Nat) : Nat → Nat → List Nat → Nat → Option (List Nat)
  | 0, _, done, _ => some done
  | fuel + 1, i, done, esc =>
    let pred := done.getD (if i % 16 = 0 then i - 16 else i - 1) 0
    let byte := imgByte img (stream + (i - 1) / 2)
    let n := if (i - 1) % 2 = 0 then byte % 16 else byte / 16
    if n = 8 then do
      let vs ← tileValues img (valueBytes fmt) esc 1
      deltaPixels img fmt shift stream fuel (i + 1) (done ++ [vs.getD 0 0]) (esc + valueBytes fmt)
    else do
      let v ← deltaValue fmt pred (nibbleDelta n * 2 ^ shift)
      deltaPixels img fmt shift stream fuel (i + 1) (done ++ [v]) esc

/-- The 128 values of the tile whose header byte lies at byte `o` of an image, none on a decode error (R104 to R107,
Table 5-6). -/
def ptcTile (img : Array Byte) (fmt o : Nat) : Option (List Nat) := do
  let hs ← tileValues img 1 o 1
  let h := hs.getD 0 0
  let mode := h / 32
  let param := h % 32
  let vb := valueBytes fmt
  if fmt = 1 ∨ (mode ≠ 6 ∧ param ≠ 0) ∨ (fmt = 5 ∧ 1 < mode) then none
  else match mode with
  | 0 => do
    let vs ← tileValues img vb (o + 1) 1
    if fmt = 5 ∧ 1 < vs.getD 0 0 then none else pure (List.replicate 128 (vs.getD 0 0))
  | 1 =>
    if fmt = 5 then do
      let map ← tileValues img 1 (o + 1) 16
      pure ((upTo 128).map fun i => paletteIndex map 1 i)
    else tileValues img vb (o + 1) 128
  | 2 => paletteTile img vb (o + 1) 1
  | 3 => paletteTile img vb (o + 1) 2
  | 4 => paletteTile img vb (o + 1) 4
  | 5 => rleTile img vb 128 (o + 1) 128
  | 6 =>
    if 16 ≤ param ∨ (if fmt = 2 then 8 < param else 0 < param) then none
    else do
      let first ← tileValues img vb (o + 1) 1
      let stream ← tileValues img 1 (o + 1 + vb) 64
      if 16 ≤ stream.getD 63 0 then none
      else deltaPixels img fmt param (o + 1 + vb) 127 1 [first.getD 0 0] (o + 1 + vb + 64)
  | _ => none

/-- TILES_X and TILES_Y (Table 5-2). -/
def tilesX (w : Nat) : Nat := (w + 15) / 16
/-- TILES_Y (Table 5-2). -/
def tilesY (h : Nat) : Nat := (h + 7) / 8

/-- The index entry of tile number `t` (R97). -/
def ptcEntry (img : Array Byte) (t : Nat) : Nat := imgField img (16 + 4 * t) 4

/-- Whether an index entry lies where R100 demands. -/
def ptcEntryOk (w h len e : Nat) : Bool := decide (16 + 4 * (tilesX w * tilesY h) ≤ e) && decide (e < len)

/-- The values of tile number `t` as composition reads it: the entry is checked again (Table 5-6). -/
def ptcTileAt (img : Array Byte) (fmt w h t : Nat) : Option (List Nat) :=
  let e := ptcEntry img t
  if ptcEntryOk w h img.size e then ptcTile img fmt e else none

/-- Whether the header satisfies Table 5-2, in which I12 has no PTC form (R97). -/
def ptcHeaderOk (img : Array Byte) (fmt w h : Nat) : Bool :=
  fmt != 1 && (upTo 16).map (fun i => img.getD i 0) ==
    u32 0x31435450 ++ u8 1 ++ u8 fmt ++ u16 w ++ u16 h ++ u16 (tilesX w) ++ u16 (tilesY h) ++ u16 0

/-- A source image as a pass reads it: its bytes, and for PTC its tiles decoded; a tile in error is empty. -/
structure SourceImage where
  img   : Array Byte
  tiles : Array (Array Nat)
  deriving DecidableEq, Repr

/-- The image of `len` bytes at `base` of surface memory. -/
def sourceImage (mem : List Host.Cell) (base len fmt : Nat) (ptc : Bool) (w h : Nat) : SourceImage :=
  let img := (memRead mem base len).toArray
  ⟨img, if ptc then ((upTo (tilesX w * tilesY h)).map fun t => ((ptcTileAt img fmt w h t).getD []).toArray).toArray else #[]⟩

/-- The stored value of source pixel (x, y) of a surface image, raw or PTC (R96, R97). A tile in error reads as 0 here; it is
found and handled by R86 before the pass ends. -/
def sourceValue (src : SourceImage) (fmt : Nat) (ptc : Bool) (w x y : Nat) : Nat :=
  if ptc then (src.tiles.getD (tilesX w * (y / 8) + x / 16) #[]).getD (16 * (y % 8) + x % 16) 0 else rawPixel src.img fmt w x y

end Sys2Proof.Machine
end

