-- ==== Sys2Proof/Machine/Pixels.lean ====
section
/-! DEFINITION. What a pass computes of a frame: composed intensities (R68, R72 to R78), the code path (R37), zone sums and
occupancy counts (R87, R161), keep-dark boxes (R112), the bank layout (R88) and signatures (R124). -/

namespace Sys2Proof.Machine

open Sys2Proof

/-! ### Scaler (R76 to R78) -/

/-- Source position and phase of output pixel `j` on one axis (R76): index and phase. -/
def scalePos (src step : Nat) (adj : Int) (j : Nat) : Int × Nat :=
  let u : Int := (src : Int) * 65536 + Int.fdiv ((step : Int) - 65536) 2 + adj + j * step
  let p := Int.fdiv u 1024
  (Int.fdiv p 64, (Int.emod p 64).toNat)

/-- The 16-bit coefficients of a filter set in the order of its bytes. -/
def coefList : List Byte → List Int
  | a :: b :: rest => ofRaw 16 (leValue [a, b]) :: coefList rest
  | _ => []

/-- A filter set by its coefficients. -/
def coefs (set : List Byte) : Array Int := (coefList set).toArray

/-- Horizontal coefficient of a set (Table 4-5). -/
def coefH (set : Array Int) (ph t : Nat) : Int := set.getD (8 * ph + t) 0

/-- Vertical coefficient of a set (Table 4-5). -/
def coefV (set : Array Int) (ph m : Nat) : Int := set.getD (512 + 4 * ph + m) 0

/-- The coefficients of the default filter set (R80). -/
def defaultCoefs : Array Int := coefs defaultFilterSet

/-- A tap's column or line held inside the source rectangle, none where EDGE_MODE ZERO reads 0 (R78). -/
def edgeTap (edge lo n : Nat) (c : Int) : Option Nat :=
  let hi : Int := (lo : Int) + n - 1
  if (lo : Int) ≤ c ∧ c ≤ hi then some c.toNat
  else if edge = 0 then some (clampInt c lo hi).toNat
  else none

/-- One filter stage: taps weighted, rounded half up at 9 bits and clamped (R77). -/
def filterStage (top : Int) (taps : List (Int × Int)) : Int :=
  clampInt (Int.fdiv (taps.foldl (fun a t => a + t.1 * t.2) 0 + 256) 512) 0 top

/-- The two-stage filter over a source function (R77, R78). -/
def scaleSample (src : Nat → Nat → Nat) (setH setV : Array Int) (b : LayerBind) (top : Int) (x y : Nat) : Nat :=
  let (iu, phu) := scalePos b.srcX b.stepX b.orgX (Int.toNat ((x : Int) - b.dstX))
  let (iv, phv) := scalePos b.srcY b.stepY b.orgY (Int.toNat ((y : Int) - b.dstY))
  let col := fun (t : Nat) =>
    match edgeTap b.edge b.srcX b.srcW (iu - 3 + t) with
    | none => (0 : Int)
    | some c => filterStage top ((upTo 4).map fun m =>
        (coefV setV phv m, match edgeTap b.edge b.srcY b.srcH (iv - 1 + m) with
          | none => 0
          | some l => (src c l : Int)))
  (filterStage top ((upTo 8).map fun t => (coefH setH phu t, col t))).toNat

/-! ### Layers (R68, R72 to R75) -/

/-- A layer that a pass draws: its number, its binding with its image's form, and its image. -/
structure Drawn where
  number : Nat
  layer  : LayerDraw
  src    : SourceImage
  deriving DecidableEq, Repr

/-- Expanded source pixel (x, y) of a drawn layer: intensity and alpha (R72). -/
def layerSource (d : Drawn) (x y : Nat) : Nat × Nat :=
  expandPixel d.layer.format d.layer.bind.level (sourceValue d.src d.layer.format d.layer.ptc d.layer.width x y)

/-- Whether a layer covers a pixel (R75, R76). -/
def Drawn.covers (d : Drawn) (x y : Nat) : Bool :=
  let b := d.layer.bind
  let (w, h) := if d.number < 2 then (b.dstW, b.dstH) else (b.srcW, b.srcH)
  decide (b.dstX ≤ x) && decide ((x : Int) < b.dstX + w) && decide (b.dstY ≤ y) && decide ((y : Int) < b.dstY + h)

/-- A layer's sample at a pixel it covers: intensity and alpha (R75, R77). -/
def layerSample (filters : Array (Array Int)) (d : Drawn) (x y : Nat) : Nat × Nat :=
  let b := d.layer.bind
  if d.number < 2 then
    let setH := filters.getD b.filtH #[]
    let setV := filters.getD b.filtV #[]
    (scaleSample (fun c l => (layerSource d c l).1) setH setV b 65535 x y,
      if d.layer.format = 3 then scaleSample (fun c l => (layerSource d c l).2) setH setV b 255 x y else 255)
  else
    layerSource d (b.srcX + Int.toNat ((x : Int) - b.dstX)) (b.srcY + Int.toNat ((y : Int) - b.dstY))

/-- The mode result r (Table 4-4). -/
def blendResult (mode d s : Nat) : Nat :=
  match mode with
  | 1 => (d * s + 32767) / 65535
  | 2 => min d s
  | 3 => max d s
  | 4 => min (d + s) 65535
  | _ => s

/-- One layer drawn over the running value D (R73, R74). -/
def blendLayer (b : LayerBind) (d : Nat) (sa : Nat × Nat) : Nat :=
  if b.blend = 5 then sa.1
  else
    let a := (sa.2 * b.alpha + 127) / 255
    (blendResult b.blend d sa.1 * a + d * (255 - a) + 127) / 255

/-- The composed intensity of a native frame's pixel (R74). -/
def composeLayers (drawn : List Drawn) (bg : Nat) (filters : Array (Array Int)) (x y : Nat) : Nat :=
  drawn.foldl (fun v d => if d.covers x y then blendLayer d.layer.bind v (layerSample filters d x y) else v) bg

/-! ### Scaled stored images: fallback and Campion (R215, R328) -/

/-- A binding that scales a whole I8 source of w x h to the array (R215, R328). -/
def wholeBind (w h stepX stepY : Nat) : LayerBind :=
  { enable := true, blend := 5, alpha := 255, level := 65535, surface := 0, srcX := 0, srcY := 0, srcW := w, srcH := h,
    dstX := 0, dstY := 0, dstW := 2048, dstH := 512, stepX := stepX, stepY := stepY, orgX := 0, orgY := 0, filtH := 0,
    filtV := 0, edge := 0, policy := 1, holdMax := 0, fbSurface := 255 }

/-- The scaled sample of a stored I8 image of 512 x 128 (R215). -/
def imageSample (img : Array Byte) (x y : Nat) : Nat :=
  scaleSample (fun c l => imgByte img (512 * l + c) * 257) defaultCoefs defaultCoefs
    (wholeBind 512 128 0x4000 0x4000) 65535 x y

/-- The scaled sample of the PH16K map (R328). -/
def mapSample (map : Array Byte) (x y : Nat) : Nat :=
  scaleSample (fun c l => imgByte map (128 * l + c) * 257) defaultCoefs defaultCoefs
    (wholeBind 128 128 0x1000 0x4000) 65535 x y

/-- What a pass reads of a frame: the layers it draws, and the stored images of a fallback or Campion frame. -/
structure PassSource where
  drawn : List Drawn
  sets  : Array (Array Int)
  fb    : Array Byte
  image : Array Byte
  map   : Array Byte
  deriving DecidableEq, Repr

/-- The source intensity before DIM, by source (Table 16-2, R328). -/
def campionSource (p : PassSource) (source x y : Nat) : Nat :=
  match source with
  | 1 => imageSample p.image x y
  | 2 => imageSample p.image x y
  | 3 => mapSample p.map x y
  | 4 => if (x / 16 + y / 4) % 2 = 0 then 65535 else 0
  | 5 => 65535
  | 6 => (65535 * x + 1023) / 2047
  | _ => 0

/-- K of R328 by DIM. -/
def campionDim (mode : Nat) : Nat :=
  match bits mode 2 2 with
  | 0 => 65535 | 1 => 49151 | 2 => 32768 | _ => 16384

/-- The composed intensity of a Campion frame's pixel (R328). -/
def campionIntensity (p : PassSource) (c : CampionSnap) (x y : Nat) : Nat :=
  (campionSource p c.source x y * campionDim c.mode + 32767) / 65535

/-- What a pass of a frame reads. The fallback image is held as the frame's one filter string. -/
def Frame.source (f : Frame) : PassSource :=
  let snap := fun (g : CampionSnap → List Byte) => ((f.campion.map g).getD []).toArray
  { drawn := (f.layers.zipIdx).filterMap fun e =>
      if e.1.drawn then
        some ⟨e.2, e.1, sourceImage f.surfMem e.1.base e.1.len e.1.format e.1.ptc e.1.width e.1.height⟩
      else none
    sets := (f.filters.map coefs).toArray
    fb := if f.kind == .fallback then (f.filters.getD 0 []).toArray else #[]
    image := snap (·.image)
    map := snap (·.map) }

/-- The composed intensity I of a frame's pixel: native, Campion, or fallback (R74, R215, R328). -/
def Frame.intensity (f : Frame) (p : PassSource) (x y : Nat) : Nat :=
  match f.kind, f.campion with
  | .fallback, _ => imageSample p.fb x y
  | _, some c => campionIntensity p c x y
  | _, none => composeLayers p.drawn f.bg p.sets x y

/-! ### Boxes (R112) -/

/-- Whether an enabled box covers a pixel, dilation included and clipped at the array edge (R112). -/
def Box.covers (b : Box) (x y : Nat) : Bool :=
  b.enable && decide (b.x0 ≤ x + b.dilate) && decide (x ≤ b.x1 + b.dilate) && decide (b.y0 ≤ y + b.dilate) &&
  decide (y ≤ b.y1 + b.dilate)

/-- Whether an enabled box intersects a row (R62). -/
def Box.coversRow (b : Box) (y : Nat) : Bool := b.enable && decide (b.y0 ≤ y + b.dilate) && decide (y ≤ b.y1 + b.dilate)

/-- The rectangle of a signature window as a box without dilation (R115). -/
def Win.box (w : Win) : Box := ⟨true, 0, w.x0, w.y0, w.x1, w.y1⟩

/-- The blanked windows of a frame as boxes, with their window numbers (R115). -/
def Frame.blankedBoxes (f : Frame) : List (Nat × Box) :=
  ((f.wins.zip f.blanked).zipIdx).filterMap fun e => if e.1.2 then some (e.2, e.1.1.box) else none

/-- The box set of a frame: source HOST (0), REFLEX (1) or WINDOW (2), slot or window, box (R115). Host boxes count only while
KD_ENABLE is 1. -/
def Frame.boxSet (f : Frame) : List (Nat × Nat × Box) :=
  let host := if f.kdEnable then (f.hostBoxes.zipIdx).map fun e => (0, e.2, e.1) else []
  let reflex := (f.reflexBoxes.zipIdx).map fun e => (1, e.2, e.1)
  let win := f.blankedBoxes.map fun e => (2, e.1, e.2)
  (host ++ reflex ++ win).filter fun e => e.2.2.enable

/-- Whether any box of a frame's set covers a pixel. -/
def Frame.inBox (f : Frame) (x y : Nat) : Bool := f.boxSet.any fun e => e.2.2.covers x y

/-! ### The code path (R37) -/

/-- Steps 1 to 6 of the code path (R37). -/
def codeValue (i g gz lf s : Nat) : Nat :=
  let p1 := i * (384 + g)
  let p2 := (p1 * clampNat gz 8192 24576 + 8192) / 16384
  let p3 := (p2 * min lf 32768 + 16384) / 32768
  let p4 := (p3 * s + 16384) / 32768
  min ((p4 + 4096) / 8192) 4095

/-- The code path (R37): steps 1 to 6, keep-dark forcing and stuck-on forcing. -/
def codePath (i g gz lf s : Nat) (inBox : Bool) (defect : Nat) : Nat :=
  if inBox || defect == 3 then 0 else codeValue i g gz lf s

/-- The code of a frame's pixel as its write pass forms it (R37, R88), from what the pass reads and the frame's boxes. -/
def Frame.code (f : Frame) (p : PassSource) (boxes : List (Nat × Nat × Box)) (x y : Nat) : Nat :=
  codePath (f.intensity p x y) (gpOf f.cal (2048 * y + x)) (f.gz.getD (zoneOf x y) 16384) f.limit f.sComp
    (boxes.any fun e => e.2.2.covers x y) (defectIn f.cal x y)

/-- The pixels of a zone (R5). -/
def zonePixels (z : Nat) : List (Nat × Nat) :=
  ((upTo 32).map fun dy => (upTo 64).map fun dx => (z % 32 * 64 + dx, z / 32 * 32 + dy)).flatten

/-- C' of a zone's pixels: step 6 with L taken as 32,768 (R87). -/
def Frame.zoneCodes (f : Frame) (p : PassSource) (z : Nat) : List Nat :=
  let gz := f.gz.getD z 16384
  (zonePixels z).map fun q => codeValue (f.intensity p q.1 q.2) (gpOf f.cal (2048 * q.2 + q.1)) gz 32768 f.sComp

/-- OCC_z[j], j from 0 to 15, of a zone's C' (R161). -/
def occupancy (codes : List Nat) : List Nat := (upTo 16).map fun j => (codes.filter fun c => decide (256 * j < c)).length

/-! ### The bank layout (R88) -/

/-- The 3,072 bytes of a row of codes (R88). -/
def rowCodes : List Nat → List Byte
  | a :: b :: rest => leBytes 3 (a + 4096 * b) ++ rowCodes rest
  | _ => []

/-- A bank with row `y` written (R88, R89). -/
def bankWriteRow (bank : List Host.Cell) (y : Nat) (codes : List Nat) : List Host.Cell :=
  memWrite bank (3072 * y) (rowCodes codes)

/-- The 2,048 codes of row `y` of a frame. -/
def Frame.rowOf (f : Frame) (p : PassSource) (y : Nat) : List Nat :=
  let boxes := f.boxSet
  (upTo 2048).map fun x => f.code p boxes x y

/-- The codes held in the bytes of rows. -/
def codesOf : List Byte → List Nat
  | a :: b :: c :: rest => let v := leValue [a, b, c]; v % 4096 :: v / 4096 :: codesOf rest
  | _ => []

/-- The codes of row `y` of a bank. -/
def bankRow (bank : List Host.Cell) (y : Nat) : List Nat := codesOf (memRead bank (3072 * y) 3072)

/-- All codes of a bank by row. -/
def bankRows (bank : List Host.Cell) : Array (Array Nat) := ((upTo 512).map fun y => (bankRow bank y).toArray).toArray

/-- The code of pixel (x, y) among a bank's rows. -/
def rowsCode (rows : Array (Array Nat)) (x y : Nat) : Nat := (rows.getD y #[]).getD x 0

/-- A value of the monitor copy (R90). -/
def monitorValue (rows : Array (Array Nat)) (u w : Nat) : Nat :=
  (sumNat ((upTo 8).map fun dy => sumNat ((upTo 8).map fun dx => rowsCode rows (8 * u + dx) (8 * w + dy))) + 2) / 4

/-! ### Signatures (R124) -/

/-- The signature of a window over a value of each pixel (R124). -/
def signature (n : Nat) (w : Win) (value : Nat → Nat → Nat) : Nat :=
  crc crc32cParams [BitVec.ofNat 8 n, BitVec.ofNat 8 w.mode, 0, 0]
    (((upTo (w.y1 + 1 - w.y0)).map fun dy => ((upTo (w.x1 + 1 - w.x0)).map fun dx =>
      u16 (value (w.x0 + dx) (w.y0 + dy))).flatten).flatten)

/-- The signatures of all windows over the codes that a frame's write pass forms (R125, EXPECT_SELF). -/
def Frame.selfSignatures (f : Frame) : List Nat :=
  let p := f.source
  let boxes := f.boxSet
  (upTo 16).map fun n => signature n (f.wins.getD n ⟨0, 0, 0, 0, 0⟩) (f.code p boxes)

/-- The signature of an INTENSITY window over a frame's composed intensities (R124). -/
def Frame.intensitySignature (f : Frame) (p : PassSource) (n : Nat) : Nat :=
  signature n (f.wins.getD n ⟨0, 0, 0, 0, 0⟩) (f.intensity p)

end Sys2Proof.Machine
end

