-- ==== Sys2Proof/Machine/SurfaceOps.lean ====
section
/-! DEFINITION. Surface memory: descriptors and allocations (R92 to R95), in-use surfaces and the write queue (R99), applying
writes, CLEAR and CLOSE (R98 to R101), and the requests of the memory scan engine (R277, R279). -/

namespace Sys2Proof.Machine

open Sys2Proof

/-! ### Descriptors -/

/-- Object `sub` of surface `n`'s descriptor (Table 5-1). -/
def State.surfPar (s : State) (n sub : Nat) : Nat := s.parN 0x2310 n sub

/-- Surface `n`'s state beside its descriptor. -/
def State.surface (s : State) (n : Nat) : Surface := s.surf.surf.getD n Surface.reset

/-- `s` with surface `n`'s state modified. -/
def State.onSurface (s : State) (n : Nat) (f : Surface → Surface) : State :=
  s.onSurf fun m => { m with surf := m.surf.modify n f }

/-- Whether surface `n` is PTC. -/
def State.surfIsPtc (s : State) (n : Nat) : Bool := s.surfPar n K.surfPtc != 0

/-- The row pitch P of surface `n` (R96). -/
def State.surfPitch (s : State) (n : Nat) : Nat := rowPitch (s.surfPar n K.surfFormat) (s.surfPar n K.surfWidth)

/-- SURF_LEN of surface `n`: derived for RAW (R96). For PTC it is as the host wrote it, held to no more than SURF_SIZE (R93, log 42). -/
def State.surfLen (s : State) (n : Nat) : Nat :=
  if s.surfIsPtc n then min (s.surfPar n K.surfLen) (s.surfPar n K.surfSize)
  else rawLen (s.surfPar n K.surfFormat) (s.surfPar n K.surfWidth) (s.surfPar n K.surfHeight)

/-- The first byte of surface `n`'s allocation in surface memory (R92). -/
def State.surfAddr (s : State) (n : Nat) : Nat := 4096 * s.surfPar n K.surfBase

/-- Bytes of surface `n`'s allocation from an offset. -/
def State.surfRead (s : State) (n off len : Nat) : List Byte := memRead s.surf.mem (s.surfAddr n + off) len

/-- Free pages of surface memory (SURF_PAGES_FREE). -/
def State.pagesFree (s : State) : Nat := 3072 - sumNat ((upTo 64).map fun n => s.surfPar n K.surfSize / 4096)

/-- The items of the write queue and those that wait for room in it, in the order in which they will be applied to a surface (R99). -/
def State.heldItems (s : State) : List Held := s.surf.queue ++ s.surf.waiting.map Waiting.item

/-- Object `sub` of surface `n`'s descriptor once the writes held for it are applied (R99). -/
def State.surfNext (s : State) (n sub : Nat) : Nat :=
  s.heldItems.foldl (fun v h => match h with
    | .object m k w => if m = n ∧ k = sub then w else v
    | _ => v) (s.surfPar n sub)

/-- Whether pages of one allocation, at a page with a size, are pages of another. -/
def pagesMeet (base size b z : Nat) : Bool := decide (0 < z) && decide (base < b + z / 4096) && decide (b < base + size / 4096)

/-- Whether an allocation of surface `n` at a page with a size is refused (R93), against the other surfaces' allocations in force and
those that held writes will give them (log 42). -/
def State.allocRefused (s : State) (n base size : Nat) : Bool :=
  decide (0 < size) &&
  (decide (3072 < base + size / 4096) || (n != 0 && decide (base < 16)) ||
    (upTo 64).any fun m =>
      m != n && (pagesMeet base size (s.surfPar m K.surfBase) (s.surfPar m K.surfSize) ||
        pagesMeet base size (s.surfNext m K.surfBase) (s.surfNext m K.surfSize)))

/-- Whether R93, R101 or R320 refuses a write of value `v` to object `sub` of surface `n`'s descriptor, whose other objects a function
gives. TRANSFER with PTC is refused from either side (log 12). -/
def State.surfRefusedIn (s : State) (now : Nat → Nat) (n sub v : Nat) : Bool :=
  let g := fun k => if k = sub then v else now k
  let size := g K.surfSize
  let derived := rawLen (g K.surfFormat) (g K.surfWidth) (g K.surfHeight)
  let ptc := g K.surfPtc != 0
  let length := if ptc then min (g K.surfLen) (now K.surfSize) else derived
  if sub = K.surfBase ∨ sub = K.surfSize then
    s.allocRefused n (g K.surfBase) size || (sub == K.surfSize && size != 0 && decide (size < length))
  else if sub = K.surfLen then !ptc || decide (size < v)
  else if sub = K.surfFormat ∨ sub = K.surfWidth ∨ sub = K.surfHeight then size != 0 && !ptc && decide (size < derived)
  else if sub = K.surfPtc then
    (size != 0 && !ptc && decide (size < derived)) || (ptc && g K.surfVerify == 1)
  else if sub = K.surfVerify then v == 1 && ptc
  else false

/-- Whether a write to surface `n`'s descriptor is refused: against its objects as the writes held for it leave them (R93, R99). -/
def State.surfRefused (s : State) (n sub v : Nat) : Bool := s.surfRefusedIn (s.surfNext n) n sub v

/-! ### The scan engine's requests (R277, R279) -/

/-- The priority of a scan user: verification, host, scrub (R277). -/
def ScanUser.rank : ScanUser → Nat
  | .verify _ => 0 | .host => 1 | .scrubCal _ => 2 | .scrubSurf _ => 2

/-- Whether a waiting request can run: a scrub of a surface waits until the surface is VALID (R279). -/
def State.scanReady (s : State) (j : ScanJob) : Bool :=
  match j.user with
  | .scrubSurf n => (s.surface n).phase == .valid
  | _ => true

/-- A request as it starts: a surface is scanned over the SURF_LEN that it has then (R100, R278). -/
def State.fitScan (s : State) (j : ScanJob) : ScanJob :=
  match j.user with
  | .verify n => { j with len := s.surfLen n }
  | .scrubSurf n => { j with len := s.surfLen n }
  | _ => j

/-- When no scan runs and COMP is powered, the waiting request of highest priority starts, the earliest first (R277, R279). -/
def State.startScan (s : State) : State :=
  match s.chk.scan with
  | some _ => s
  | none =>
    match (upTo 3).findSome? fun r => s.chk.waiting.find? fun j => j.user.rank == r && s.scanReady j with
    | none => s
    | some j => if s.pwr.comp then s.onChk fun c => { c with scan := some (s.fitScan j), waiting := c.waiting.erase j } else s

/-- A request to the scan engine (R277). -/
def State.requestScan (s : State) (j : ScanJob) : State :=
  (s.onChk fun c => { c with waiting := c.waiting ++ [j] }).startScan

/-- A host request ends ABORTED with a cause (R279, Table 15-19). -/
def State.hostAborted (s : State) (cause : Nat) : State :=
  s.onChk fun c => { c with crcsState := 6, crcsCause := cause }

/-- Whether an aborted request is made again from its start when the cause has cleared: a scrub region, and at a power-down a surface
verification too (R279, log 33). -/
def ScanJob.again (j : ScanJob) (cause : Nat) : Bool :=
  match j.user with
  | .host => false
  | .verify _ => cause == 3
  | _ => true

/-- The running scan is aborted with no result where a predicate selects it, and no other has started yet; a host request reports ABORTED
with a cause (R279). -/
def State.stopScan (s : State) (hit : ScanJob → Bool) (cause : Nat) : State :=
  match s.chk.scan with
  | none => s
  | some j =>
    if hit j then
      let s1 := s.onChk fun c => { c with scan := none, waiting := c.waiting ++ [j].filter (·.again cause) }
      if j.user = .host then s1.hostAborted cause else s1
    else s

/-- A running scan that a predicate selects is aborted, and the next one starts (R279). -/
def State.abortScan (s : State) (hit : ScanJob → Bool) (cause : Nat) : State := (s.stopScan hit cause).startScan

/-- The host's request, running or waiting, ends ABORTED by its requester (R279, R283). -/
def State.abortHost (s : State) : State :=
  let s1 := s.abortScan (fun j => j.user == .host) 4
  if s1.chk.waiting.any fun j => j.user == .host then
    (s1.onChk fun c => { c with waiting := c.waiting.filter fun j => j.user != .host }).hostAborted 4
  else s1

/-- Whether a request of the host runs or waits: BUSY (R283). -/
def State.crcsBusy (s : State) : Bool := (s.chk.scan.toList ++ s.chk.waiting).any fun j => j.user == .host

/-- Verifications of surface `n` that wait are withdrawn: a write abandons the verification (R98). -/
def State.dropVerify (s : State) (n : Nat) : State :=
  s.onChk fun c => { c with waiting := c.waiting.filter fun j => j.user != .verify n }

/-- Scans of surface `n`: a verification, a scrub of it, or a host request on it (R279). -/
def State.scansSurface (s : State) (n : Nat) (j : ScanJob) : Bool :=
  match j.user with
  | .verify m => m == n
  | .scrubSurf m => m == n
  | .host => s.par K.crcsSource == 1 && s.par K.crcsSurface == n
  | .scrubCal _ => false

/-- Scans of the calibration store whose region holds any of `len` bytes from an address (R279). -/
def State.scansCal (s : State) (addr len : Nat) (j : ScanJob) : Bool :=
  decide (j.start < addr + len) && decide (addr < j.start + j.len) && match j.user with
    | .scrubCal _ => true
    | .host => s.par K.crcsSource == 3
    | _ => false

/-- An answer that a packet's write has asked for (R258, R264). -/
def State.ackPacket (s : State) (a : Option (Bool × Nat × Nat)) (code : Nat) : State :=
  match a with
  | some (bro, seq, type) => s.ack true bro seq type code 0
  | none => s

/-- What asked for the verification of surface `n` is answered (R258, R264): ACK VALID or NAK VERIFY. -/
def State.answerVerify (s : State) (n : Nat) (err : Nat) : State :=
  match (s.surface n).answer with
  | none => s
  | some (bro, seq, type) =>
    let s1 := s.onSurface n fun u => { u with answer := none }
    if err = 0 then s1.ack true bro seq type 4 0 else s1.nak bro seq type 6 err

/-! ### Applying a write (R98 to R102, R109) -/

/-- A write or CLEAR to surface `n`: its pending second looks lapse and DECODE_FAULT clears (R109, R198), its scans end
(R279), and layers' last good bindings that read it are no longer fresh (R83). A TRANSFER write that had completed the fill is answered
VALID now (log 42). The next scan starts once what touched the surface has been applied. -/
def State.surfTouched (s : State) (n : Nat) : State :=
  let s := if (s.surface n).phase = .valid then s.answerVerify n 0 else s
  let s := s.onSurface n fun u => { u with
    decodeFault := false, looks := [], scrubLook := none, answer := none, needsCheck := false }
  let s := (s.dropVerify n).stopScan (s.scansSurface n) 1
  s.onComp fun c => { c with layers := c.layers.map fun l =>
    match l.lastGood with
    | some d => if d.bind.surface = n then { l with lastGoodFresh := false } else l
    | none => l }

/-- Surface `n` becomes OPEN by an accepted write or CLEAR; ROWS_DONE counts anew from its becoming OPEN (R98, R101). -/
def Surface.opened (u : Surface) : Surface :=
  if u.phase = .opened then u else { u with phase := .opened, rows := [], partEnd := none }

/-- ROWS_DONE once `len` bytes have been written at an offset: a row of `pitch` bytes counts with the write that holds its last byte, where
its first byte was written since the surface became OPEN and before it (R101, R295). -/
def Surface.countRows (u : Surface) (pitch height off len : Nat) : Surface :=
  let goesOn := u.partEnd == some off
  let first := if off % pitch = 0 ∨ goesOn then off / pitch else off / pitch + 1
  let stop := (off + len) / pitch
  let rows := ((upTo (min stop height)).filter (first ≤ ·)).foldl setAdd u.rows
  let part := if (off + len) % pitch = 0 then (if goesOn then none else u.partEnd)
    else if first ≤ stop then some (off + len) else none
  { u with rows := rows, partEnd := part }

/-- Surface `n` becomes VALID in TRANSFER mode: a new GEN, and SEAL_ACTUAL is formed by the scan engine (R101). -/
def State.transferDone (s : State) (n : Nat) : State :=
  (s.onSurface n fun u => { u with phase := .valid, gen := inc32 u.gen 1, lastError := 0 }).requestScan
    ⟨.verify n, 0, s.surfLen n⟩

/-- An accepted write of bytes to surface `n` is applied (R98). In TRANSFER mode a row of the image counts when the write that holds its
last byte is applied (R101, R295); rows beyond SURF_HEIGHT are none of the image's (log 42). -/
def State.applyBytes (s : State) (n off : Nat) (data : List Byte) : State :=
  let s := s.surfTouched n
  let s := s.onSurf fun m => { m with mem := memWrite m.mem (s.surfAddr n + off) data }
  let s := s.onSurface n fun u =>
    if s.surfPar n K.surfVerify = 1 then u.opened.countRows (s.surfPitch n) (s.surfPar n K.surfHeight) off data.length else u.opened
  if s.surfPar n K.surfVerify = 1 ∧ s.surfPar n K.surfHeight ≤ (s.surface n).rows.length ∧ !s.surfIsPtc n then
    s.transferDone n
  else s.startScan

/-- CLEAR of surface `n` is applied: an allocated surface becomes OPEN, its content is discarded, ROWS_DONE is 0 (R98, R101).
The stored bytes stay as they are (log 11). -/
def State.applyClear (s : State) (n : Nat) : State :=
  let s := s.surfTouched n
  if s.surfPar n K.surfSize = 0 then s.startScan
  else (s.onSurface n fun u => { u with phase := .opened, rows := [], partEnd := none }).startScan

/-- CLOSE of an OPEN surface in SEAL mode is applied: VERIFYING, and the scan engine is asked (R100). -/
def State.applyClose (s : State) (n : Nat) : State :=
  if (s.surface n).phase = .opened ∧ s.surfPar n K.surfVerify = 0 then
    (s.onSurface n fun u => { u with phase := .verifying, looks := [] }).requestScan ⟨.verify n, 0, s.surfLen n⟩
  else s

/-- A descriptor object of surface `n` is written: a change of geometry discards the content (R95, R312). A held write that R93 would no
longer take is not applied (log 42). -/
def State.applySurfObject (s : State) (n sub v : Nat) : State :=
  if s.surfRefusedIn (s.surfPar n) n sub v then s
  else
    let changes := sub ≤ K.surfVerify && v != s.surfPar n sub
    let s := s.putPar (objKey (0x2310 + n) sub) v
    if changes then
      ((s.surfTouched n).onSurface n fun u => { u with phase := .empty, rows := [], partEnd := none, lastError := 0 }).startScan
    else s

/-! ### In-use surfaces and the write queue (R99) -/

/-- Whether surface `n` is in use by the frame in composition (R99). -/
def State.inUse (s : State) (n : Nat) : Bool :=
  match s.tim.work with
  | some f => f.kind != .fallback && decide (f.rowsDone < 512) && f.surfaces.contains n
  | none => false

/-- The bytes an item takes in the write queue: a write's data (log 13). -/
def Held.size : Held → Nat
  | .bytes _ _ d _ _ _ => d.length
  | _ => 0

/-- The surface an item concerns. -/
def Held.surface : Held → Nat
  | .bytes n _ _ _ _ _ => n
  | .close n => n
  | .clear n => n
  | .object n _ _ => n

/-- The bytes in the write queue. -/
def State.queueBytes (s : State) : Nat := sumNat (s.surf.queue.map Held.size)

/-- Whether an item finds room in the write queue of 32 KiB (R99). A full queue takes no item of any size. -/
def State.queueRoom (s : State) (h : Held) : Bool := decide (s.queueBytes + h.size ≤ 32768) && decide (s.queueBytes < 32768)

/-- Whether a write to a TRANSFER-mode surface does not cover whole rows (R101). -/
def State.rowsRefused (s : State) (n off len : Nat) : Bool :=
  let p := s.surfPitch n
  s.surfPar n K.surfVerify == 1 && (off % p != 0 || len % p != 0)

/-- A write of bytes is applied (R98). In SEAL mode a closing one asks for CLOSE; in TRANSFER mode one that completes the fill is
answered after SEAL_ACTUAL, any other at once (R258). One that a held geometry write has left beyond SURF_SIZE, or without whole rows in
TRANSFER mode, is not applied (log 42). -/
def State.applyWrite (s : State) (n off : Nat) (data : List Byte) (close : Bool) (answer : Option (Bool × Nat × Nat)) (whole : Nat × Nat) :
    State :=
  if s.surfPar n K.surfSize < off + data.length ∨ s.rowsRefused n whole.1 whole.2 then
    match answer with
    | some (bro, seq, type) => s.nak bro seq type 5 0
    | none => s
  else
    let s1 := s.applyBytes n off data
    if s1.surfPar n K.surfVerify = 1 then
      if (s1.surface n).phase = .valid then s1.onSurface n fun u => { u with answer := answer } else s1.ackPacket answer 0
    else if close then (s1.applyClose n).onSurface n fun u => { u with answer := answer }
    else s1.ackPacket answer 0

/-- An item is applied to its surface. -/
def State.applyHeld (s : State) : Held → State
  | .bytes n off d close answer whole => s.applyWrite n off d close answer whole
  | .close n => s.applyClose n
  | .clear n => s.applyClear n
  | .object n sub v => s.applySurfObject n sub v

/-- An item enters the write queue (R99). -/
def State.hold (s : State) (h : Held) : State :=
  s.onSurf fun m =>
    let q := m.queue ++ [h]
    { m with queue := q, queuePeak := max m.queuePeak (sumNat (q.map Held.size)) }

/-- An accepted item is applied at once, or enters the write queue while its surface is in use or an earlier item of it is held; none
where the queue has no room for it, or an earlier item of the surface still waits for room (R99). -/
def State.enter (s : State) (blocked : Bool) (h : Held) : Option State :=
  if blocked then none
  else if !s.inUse h.surface && !(s.surf.queue.any fun q => q.surface == h.surface) then some (s.applyHeld h)
  else if s.queueRoom h then some (s.hold h)
  else none

/-- Whether an item of surface `n` waits for room in the write queue. -/
def State.waitsFor (s : State) (n : Nat) : Bool := s.surf.waiting.any fun w => w.item.surface == n

/-- The state once every item held for surface `n` has been applied: the one against which later writes to it are judged (log 42). -/
def State.surfAfter (s : State) (n : Nat) : State := (s.heldItems.filter fun h => h.surface == n).foldl State.applyHeld s

/-- An item waits for room in the write queue, behind those that came before it (R99). -/
def State.waitFor (s : State) (w : Waiting) : State := s.onSurf fun m => { m with waiting := m.waiting ++ [w] }

/-- Whether what waits came in a Vexlink packet of its own. -/
def Waiting.isPacket (w : Waiting) : Bool :=
  match w.who with
  | .packet _ => true
  | _ => false

/-- The Grenz requests that wait for room in the write queue. -/
def State.requestsWaiting (s : State) : List GrenzMsg :=
  s.surf.waiting.filterMap fun w => match w.who with
    | .request m => some m
    | _ => none

/-- Whether the block of the transfer in progress waits for room in the write queue. -/
def State.blockWaits (s : State) : Bool := s.surf.waiting.any fun w => decide (w.who = .block)

/-- An item that waited has entered: its packet's units are released and its answer is sent (R99, R258, R262, R267, R291, R295). -/
def State.admitted (s : State) (w : Waiting) : State :=
  let s1 := s.release w.units
  match w.who with
  | .packet answer => s1.sendOut answer
  | .request m => s1.reply m []
  | .block => match s1.can.transfer with
    | some t => s1.ackBlock t
    | none => s1

/-- Items that waited for room in the write queue enter it in arrival order; one that finds none waits on (R99). -/
def State.admitAll (s : State) : State :=
  s.surf.waiting.foldl (fun s w =>
    match s.enter (s.waitsFor w.item.surface) w.item with
    | some s1 => s1.admitted w
    | none => s.waitFor w) (s.onSurf fun m => { m with waiting := [] })

/-- Items whose surface is no longer in use are applied in arrival order, and items that waited for room follow (R99). -/
def State.applyQueue (s : State) : State :=
  let ready := s.surf.queue.filter fun h => !s.inUse h.surface
  let rest := s.surf.queue.filter fun h => s.inUse h.surface
  (ready.foldl State.applyHeld (s.onSurf fun m => { m with queue := rest })).admitAll

/-- The transfer in progress is over; a block of it that waits for the write queue waits no more, and what came behind it may enter the
queue (R99, R295). -/
def State.endTransfer (s : State) : State :=
  let s1 := s.dropLogRead.onCan fun c => { c with transfer := none }
  if s.blockWaits then (s1.onSurf fun m => { m with waiting := m.waiting.filter fun w => decide (w.who ≠ .block) }).admitAll else s1

/-- The transfer in progress ends with ABORT and a code (R295, R388). -/
def State.abortTransfer (s : State) (code : Nat) : State :=
  match s.can.transfer with
  | none => s
  | some t => s.endTransfer.sendGrenz t.req 0x1F t.index t.sub 0 (u8 code ++ [0, 0, 0])

end Sys2Proof.Machine
end

