-- ==== Sys2Proof/Machine/FrameOps.lean ====
section
/-! DEFINITION. Commits and compositions: the items of a commit and their merging (R58, R110, R123), what a composition samples
when its statistics pass begins (R39, R69, R70, R114, R115), the judgement of layers (R82 to R85), refresh triggers (R59), and
the abandonment of a work frame (R50, R18). -/

namespace Sys2Proof.Machine

open Sys2Proof

/-! ### Merging (R58) -/

/-- A later list of items laid over an earlier one, item by item (R58). -/
def overlay {α : Type} (key : α → Nat) (earlier later : List α) : List α :=
  earlier.filter (fun e => !(later.any fun l => key l == key e)) ++ later

/-- The later commit merged over the earlier one (R58, R329). -/
def mergeCommit (earlier later : Commit) : Commit :=
  { later with
    layers := overlay LayerUpdate.layer earlier.layers later.layers
    boxes := overlay Prod.fst earlier.boxes later.boxes
    sigs := overlay SigUpdate.window earlier.sigs later.sigs }

/-- A commit bound earlier than the one in the pending slot returns under it (R18). -/
def State.returnCommit (s : State) (c : Commit) : State :=
  s.onTim fun t => { t with pend := some (match t.pend with
    | some p => mergeCommit c p
    | none => c) }

/-! ### Timing parameters -/

/-- The margin M of a line rate (Table 3-1). -/
def marginOf (slot : Nat) : Nat :=
  match slot with
  | 32 => 8 | 64 => 12 | _ => 20

/-- M at the line rate in force. -/
def State.margin (s : State) : Nat := marginOf (s.par K.rowSlot)

/-- E of a frame in cycles (R51). -/
def State.earliest (s : State) (f : Frame) : Nat := if f.eMax then s.tim.maxCyc else s.tim.minCyc

/-- A composition of a frame has begun and its swap has not come (R54). -/
def State.composing (s : State) : Bool := s.tim.work.isSome

/-- The module composes in READY, LIT and SERVICE (R59, R218). -/
def State.mayCompose (s : State) : Bool := s.pwr.dev == .ready || s.pwr.dev == .lit || s.pwr.dev == .service

/-! ### Layer bindings (R69, R70) -/

/-- The binding of layer `k` as its objects hold it (R69, Table 4-2). -/
def State.layerBind (s : State) (k : Nat) : LayerBind :=
  let p := s.parN 0x2210 k
  { enable := p K.layerEnable != 0, blend := p K.blendMode, alpha := p K.layerAlpha, level := p K.layerLevel,
    surface := p K.srcSurface, srcX := p K.srcX, srcY := p K.srcY, srcW := p K.srcW, srcH := p K.srcH,
    dstX := ofRaw 16 (p K.dstX), dstY := ofRaw 16 (p K.dstY), dstW := p K.dstW, dstH := p K.dstH,
    stepX := p K.stepX, stepY := p K.stepY, orgX := ofRaw 32 (p K.orgX), orgY := ofRaw 32 (p K.orgY),
    filtH := p K.filtH, filtV := p K.filtV, edge := p K.edgeMode, policy := p K.notReadyPolicy,
    holdMax := p K.holdMax, fbSurface := p K.fallbackSurface }

/-- The objects a layer update writes and their values (R70): every object of Table 4-2 but the five set through the dictionary
only, and of those the ones that exist for the layer. -/
def updateObjects (k : Nat) (b : LayerBind) : List (Nat × Nat) :=
  let all := [(K.layerEnable, b2n b.enable), (K.blendMode, b.blend), (K.layerAlpha, b.alpha), (K.layerLevel, b.level),
    (K.srcSurface, b.surface), (K.srcX, b.srcX), (K.srcY, b.srcY), (K.srcW, b.srcW), (K.srcH, b.srcH),
    (K.dstX, toRaw 16 b.dstX), (K.dstY, toRaw 16 b.dstY)]
  let video := [(K.dstW, b.dstW), (K.dstH, b.dstH), (K.stepX, b.stepX), (K.stepY, b.stepY), (K.orgX, toRaw 32 b.orgX),
    (K.orgY, toRaw 32 b.orgY), (K.filtH, b.filtH), (K.filtV, b.filtV)]
  if k < 2 then all ++ video else all

/-- A commit's layer updates are written into the layers' objects when its composition starts (R70). -/
def State.writeUpdates (s : State) (us : List LayerUpdate) : State :=
  us.foldl (fun s u => (updateObjects u.layer u.bind).foldl (fun s o => s.putPar (objKey (0x2210 + u.layer) o.1) o.2) s) s

/-! ### Readiness (R82) -/

/-- The first cause of Table 4-7 that makes layer `k` with a binding not ready, in the order of R82. -/
def State.notReady (s : State) (k : Nat) (b : LayerBind) : NrCause :=
  let u := s.surface b.surface
  let fmt := s.surfPar b.surface K.surfFormat
  let w := s.surfPar b.surface K.surfWidth
  let h := s.surfPar b.surface K.surfHeight
  let video := decide (k < 2)
  let badStep := fun (v : Nat) => decide (v < 0x1000) || decide (0x20000 < v)
  if u.decodeFault then .decode
  else if s.surfPar b.surface K.surfSize = 0 then .noSurface
  else if u.phase != .valid || u.needsCheck then .incomplete
  else if (if video then fmt == 4 || fmt == 5 || s.surfIsPtc b.surface else fmt == 1 && s.surfIsPtc b.surface) then .format
  else if b.srcW = 0 ∨ b.srcH = 0 ∨ w < b.srcX + b.srcW ∨ h < b.srcY + b.srcH ∨
      (video ∧ (b.dstW = 0 ∨ b.dstH = 0 ∨ badStep b.stepX ∨ badStep b.stepY)) then .geometry
  else if video ∧ 1024 < b.srcW then .lbShort
  else .none

/-- A layer drawn with a binding from the surface it names. -/
def State.drawOf (s : State) (b : LayerBind) : LayerDraw :=
  { drawn := true, bind := b, format := s.surfPar b.surface K.surfFormat, ptc := s.surfIsPtc b.surface,
    width := s.surfPar b.surface K.surfWidth, height := s.surfPar b.surface K.surfHeight, base := s.surfAddr b.surface,
    len := s.surfLen b.surface }

/-- A layer that is not drawn. -/
def State.undrawn (s : State) (b : LayerBind) : LayerDraw := { s.drawOf b with drawn := false }

/-- The binding that draws the whole fallback surface (R84). -/
def State.fallbackBind (s : State) (k : Nat) (b : LayerBind) : LayerBind :=
  let w := s.surfPar b.fbSurface K.surfWidth
  let h := s.surfPar b.fbSurface K.surfHeight
  let g := { b with surface := b.fbSurface, srcX := 0, srcY := 0, srcW := w, srcH := h }
  if k < 2 then
    { g with
      stepX := (w * 65536 + b.dstW / 2) / b.dstW, stepY := (h * 65536 + b.dstH / 2) / b.dstH, orgX := 0, orgY := 0 }
  else g

/-- What a judgement of one layer gives: its state beside the objects, how it is drawn, and the events raised. -/
structure Judged where
  state : LayerState
  draw  : LayerDraw
  raises : List Raise
  deriving DecidableEq, Repr

/-- A not-ready layer composed under FALLBACK, or dropped where that fails (R83, R84). The number is the action: FALLBACK (2)
or DROP (1). -/
def State.drawFallback (s : State) (k : Nat) (b : LayerBind) : LayerDraw × Nat :=
  let g := s.fallbackBind k b
  if b.fbSurface = 255 ∨ s.notReady k g ≠ .none then (s.undrawn b, 1) else (s.drawOf g, 2)

/-- How a not-ready layer is drawn under its policy, and the action taken (R83). -/
def State.drawNotReady (s : State) (k : Nat) (b : LayerBind) (nr : Nat) (good : Option LayerDraw) (fresh : Bool) :
    LayerDraw × Nat :=
  match b.policy with
  | 0 =>
    match good with
    | some g => if nr ≤ b.holdMax ∧ fresh ∧ s.notReady k g.bind = .none then (g, 0) else s.drawFallback k b
    | none => s.drawFallback k b
  | 1 => (s.undrawn b, 1)
  | _ => s.drawFallback k b

/-- LAYER_STATUS state for an action (R85). -/
def actionPhase : Nat → LayerPhase
  | 0 => .holding | 1 => .dropped | _ => .fallback

/-- The number of a not-ready cause in LAYER_STATUS (Table 15-34). -/
def NrCause.num : NrCause → Nat
  | .none => 0 | .noSurface => 1 | .incomplete => 2 | .format => 3 | .geometry => 4 | .lbShort => 5 | .decode => 6

/-- The judgement of layer `k` at the start of a statistics pass (R81 to R85). A pass in which it is ready counts as one, also where that pass
then fails LASTING on decode (DESIGN CHOICE, log 28). -/
def State.judgeLayer (s : State) (k : Nat) (b : LayerBind) : Judged :=
  let l := s.comp.layers.getD k LayerState.reset
  if !b.enable then
    ⟨{ l with phase := .disabled, nrCount := 0, judged := false, lbWide := false, lastBind := some b, seen := true }, s.undrawn b, []⟩
  else
    let cause := s.notReady k b
    let wide := decide (k < 2) && decide (1024 < b.srcW)
    let ev17 : List Raise := if wide && !l.lbWide then [{ ev := 17, data := u16 k ++ u16 b.srcW }] else []
    if cause = .none then
      ⟨{ l with
          phase := .ready, nrCount := 0, judged := true, lbWide := wide, lastBind := some b, seen := true,
          lastGood := some (s.drawOf b), lastGoodFresh := true }, s.drawOf b, ev17⟩
    else
      let nr := inc32 l.nrCount 1
      let (d, action) := s.drawNotReady k b nr l.lastGood l.lastGoodFresh
      let news := !l.judged || l.nrCount == 0 || decide (l.lastBind ≠ some b) || decide (cause ≠ l.cause) ||
        action != l.action
      let ev16 : List Raise := if news then [{ ev := 16, data := u16 k ++ u8 cause.num ++ u8 action }] else []
      ⟨{ l with
          phase := actionPhase action, cause := cause, nrCount := nr, judged := true, action := action,
          lbWide := wide, lastBind := some b, seen := true }, d, ev16 ++ ev17⟩

/-- The judgement of all eight layers: their states and draws, and the events in ascending number (R82, R337). -/
def State.judgeLayers (s : State) (binds : List LayerBind) : State × List LayerDraw :=
  let js := binds.zipIdx.map fun e => s.judgeLayer e.2 e.1
  let s1 := s.onComp fun c => { c with layers := js.map Judged.state }
  let raises := (js.map Judged.raises).flatten
  let s2 := ((raises.filter fun r => r.ev == 16) ++ raises.filter fun r => r.ev == 17).foldl State.raise s1
  (s2, js.map Judged.draw)

/-! ### Campion's snapshot (R326 to R329) -/

/-- The source that a mode selects, where it is no stored image (Table 16-2): zero with BEAM OFF, a test pattern, or the map. -/
def plainSource (mode : Nat) : Option Nat :=
  if bits mode 0 2 = 0 then some 7
  else if bits mode 4 2 ≠ 0 then some (3 + bits mode 4 2)
  else if bits mode 0 2 = 3 then some 3
  else none

/-- The snapshot of a mode word and a map that a Campion composition takes. Until the selected image is in the buffer it has the source
of the composition before it (R327), and none where there was none (log 27). -/
def State.campionSnapOf (s : State) (mode : Nat) (map : List Byte) : CampionSnap :=
  let none' : CampionSnap := { mode := mode, map := map, source := 0, index := 255, image := [], substituted := false }
  match plainSource none'.mode with
  | some src => { none' with source := src }
  | none =>
    let beam := bits none'.mode 0 2
    match s.campionImage beam, s.comp.shown with
    | none, _ => none'
    | some (i, _), prev =>
      if s.comp.imgIndex = i then
        { none' with
          source := beam, index := i, image := s.comp.imgData
          substituted := beam == 2 && s.selectImage.map (·.1) == some i }
      else match prev with
        | some p => { p with mode := none'.mode, map := none'.map }
        | none => none'

/-- The snapshot of the staging copy that a Campion commit takes (R329). -/
def State.campionSnap (s : State) : CampionSnap := s.campionSnapOf (s.par K.ph16kMode) (s.dom K.ph16kMap)

/-! ### The code-path snapshot (R39) -/

/-- Gz of a zone as delivered: the loop's gain with an injected signal (R178). -/
def State.gzDelivered (s : State) (z : Nat) : Nat :=
  let g := (s.zone z).gz
  match s.sup.injAt with
  | some (k, u) => if k = z then (clampInt ((g : Int) + u) 8192 24576).toNat else g
  | none => g

/-- The slot number that zone `z`'s selection gives (R26, R30). -/
def State.slotOf (s : State) (z : Nat) : Nat := s.par (0x210101 + (((s.dom K.zonePhaseSel).getD z 0).toNat % 16))

/-- The staged cadence that a frame that starts now takes (R147), in SERVICE as elsewhere. -/
def State.takenCadence (s : State) : Option Nat := s.sense.stagedN

/-- The cadence a frame that starts now will be displayed with: the staged one where there is one; 0 in SERVICE (R40, R147). -/
def State.nextCadence (s : State) : Nat := if s.pwr.dev == .service then 0 else s.sense.stagedN.getD s.sense.n

/-- A reflex slot's box (R118). -/
def ReflexSlot.box (r : ReflexSlot) : Box :=
  if r.used then ⟨true, r.dilate, 8 * r.u0, 8 * r.w0, 8 * r.u1 + 7, 8 * r.w1 + 7⟩ else Box.off

/-- The reflex set as it stands (R115). -/
def State.reflexBoxes (s : State) : List Box := s.glare.slots.map ReflexSlot.box

/-- A frame with its code-path snapshot taken, whole and at one moment (R39). -/
def State.snapshot (s : State) (f : Frame) : Frame :=
  { f with
    gz := (upTo 512).map s.gzDelivered, cal := s.chk.cal, iref := (upTo 512).map s.iref,
    n := s.nextCadence, takenN := s.takenCadence, sComp := senseComp s.nextCadence,
    surfMem := s.surf.mem, expects := s.glare.windows.map fun w => w.expect,
    stage := .statistics, sums := [], occ := [], sigSelf := [], rowsDone := 0, mixedRows := [] }

/-- A frame with the reflex and blanked parts of its box set sampled (R115). -/
def State.sampleBoxes (s : State) (f : Frame) : Frame :=
  { f with reflexBoxes := s.reflexBoxes, blanked := s.glare.windows.map fun w => w.isBlanked }

/-- The surfaces that a composition's layers read: sources, HOLD bindings and fallback surfaces (R99). -/
def surfacesOf (layers : List LayerDraw) : List Nat :=
  (layers.filter fun l => l.drawn).foldl (fun a l => setAdd a l.bind.surface) []

/-- The statistics pass of a frame begins, or begins again in a restart: layers are judged and the snapshot is taken (R39, R69, R82). No layer is
judged for a Campion frame, which draws none (DESIGN CHOICE, log 27).
Surfaces in use by the frame stay so (R99). -/
def State.runStatistics (s : State) (f : Frame) : State :=
  let (s1, draws) := if f.campion.isSome then (s, []) else s.judgeLayers f.binds
  let g := s1.snapshot { f with layers := draws, surfaces := (surfacesOf draws).foldl setAdd f.surfaces }
  s1.onTim fun t => { t with
    work := some g, loadRow := none, loadDone := false, reload := false, lastLoaded := none }

/-- The first statistics pass of a frame begins, with its box set sampled (R115). -/
def State.beginStatistics (s : State) (f : Frame) : State := s.runStatistics (s.sampleBoxes f)

/-! ### Items a commit brings with it -/

/-- Staged commit-carried values written before a commit's binding come into force with its frame (R114). -/
def State.takeStaged (s : State) (stamp : Nat) : State :=
  let mine := s.glare.staged.filter fun e => decide (e.stamp ≤ stamp)
  s.onGlare fun g => { g with
    staged := g.staged.filter fun e => !decide (e.stamp ≤ stamp)
    kdEnable := match mine.find? fun e => e.key == K.kdEnable with
      | some e => e.value != 0
      | none => g.kdEnable
    wins := g.wins.mapIdx fun n w =>
      let get := fun sub old => match mine.find? fun e => e.key == objKey (0x2440 + n) sub with
        | some e => e.value
        | none => old
      { x0 := get K.winX0 w.x0, y0 := get K.winY0 w.y0, x1 := get K.winX1 w.x1, y1 := get K.winY1 w.y1,
        mode := get K.sigMode w.mode } }

/-- A commit's box records replace the host slots they name (R110). -/
def applyBoxes (boxes : List Box) (recs : List (Nat × Box)) : List Box := recs.foldl (fun b r => b.set r.1 r.2) boxes

/-- A commit's signature records replace windows' expected states; a window with a record leaves BLANKED (R123, R126), and its
pending looks lapse (R198). -/
def State.applySigs (s : State) (sigs : List SigUpdate) : State :=
  s.onGlare fun g => { g with
    windows := g.windows.mapIdx fun n w =>
      match sigs.find? fun e => e.window == n with
      | some e => { w with expect := ⟨e.armed, e.expectSelf, e.expected⟩, isBlanked := false }
      | none => w
    sigLooks := g.sigLooks.filter fun l => !(sigs.any fun e => e.window == l.1)
    intLooks := g.intLooks.filter fun l => !(sigs.any fun e => e.window == l.1) }

/-- A blank frame with what its binding samples beside the layers (R69, R114, R115). -/
def State.newFrame (s : State) (kind : FrameKind) (commit : Option Commit) (trigger : Option Trigger) (tag : Nat)
    (campion : Option CampionSnap) : Frame :=
  { Frame.reset with
    kind := kind, commit := commit, tag := tag, eMax := trigger == some .max,
    stamp := match commit with
      | some c => c.stamp
      | none => 0
    binds := (upTo 8).map s.layerBind, bg := s.par K.bgLevel,
    filters := [s.dom K.filterSet0, s.dom K.filterSet1], campion := campion, kdEnable := s.glare.kdEnable,
    hostBoxes := s.glare.hostBoxes, wins := s.glare.wins }

/-- The composition of a commit starts (R54, R70, R110, R114, R123, R329). A Campion commit takes no staged
KD_ENABLE and no staged window (log 50). -/
def State.startCommit (s : State) (c : Commit) : State :=
  let s := s.onTim fun t => { t with pend := none }
  if c.campion then
    let snap := s.campionSnap
    let s := s.onComp fun m => { m with shown := some snap }
    s.beginStatistics (s.newFrame .committed (some c) none c.tag (some snap))
  else
    let s := s.writeUpdates c.layers
    let s := s.takeStaged c.stamp
    let s := s.onGlare fun g => { g with hostBoxes := applyBoxes g.hostBoxes c.boxes }
    let s := s.applySigs c.sigs
    s.beginStatistics (s.newFrame .committed (some c) none c.tag none)

/-- A refresh starts for a trigger (R59). While Campion is on, it composes the mode and the map of the latest Campion snapshot again, with the
image as it is loaded now (R327), or the staging copy where none has been taken since a resume (log 14). -/
def State.startRefresh (s : State) (t : Trigger) : State :=
  if s.comp.campionOn then
    let snap := match s.comp.shown with
      | some p => s.campionSnapOf p.mode p.map
      | none => s.campionSnap
    let s := s.onComp fun m => { m with shown := some snap }
    s.beginStatistics (s.newFrame .refresh none (some t) s.tim.displayedTag (some snap))
  else s.beginStatistics (s.newFrame .refresh none (some t) s.tim.displayedTag none)

/-- A refresh trigger occurs (R59): held while a composition has begun, else served at once, by the pending commit's frame
where there is one. Outside READY, LIT and SERVICE no trigger acts. -/
def State.fire (s : State) (t : Trigger) : State :=
  if !s.mayCompose then s
  else if s.composing then s.onTim fun m => { m with held := enumAdd m.held t }
  else match s.tim.pend with
    | some c => s.startCommit c
    | none => s.startRefresh t

/-- The work frame is abandoned (R50): its load pass ends, no event is raised, and what was held for its surfaces is applied
(R99). -/
def State.abandonWork (s : State) : State :=
  (s.onTim fun t => { t with
    work := none, loadRow := none, loadDone := false, reload := false, lastLoaded := none }).applyQueue

/-- The work frame is abandoned and its commit, if it has one, returns to the pending slot (R18, R218, R425). -/
def State.abandonReturning (s : State) : State :=
  match s.tim.work with
  | none => s
  | some f =>
    let s := s.abandonWork
    match f.commit with
    | some c => s.returnCommit c
    | none => s

/-- The composition of the work frame restarts from the statistics pass, with the same commit, tag, binding and earliest-swap
count (R86, R126, R205). Its box set stays, but for a decode error or an intensity mismatch, which sample it again (R115). -/
def State.restartWork (s : State) (f : Frame) (resample : Bool) : State :=
  s.runStatistics (if resample then s.sampleBoxes f else f)

/-- After a composition ends or READY is entered: a pending commit starts its composition (R54, R425). -/
def State.startPending (s : State) : State :=
  if s.mayCompose && !s.composing then
    match s.tim.pend with
    | some c => s.startCommit c
    | none => s
  else s

end Sys2Proof.Machine
end

