-- ==== Sys2Proof/Machine/ThermBase.lean ====
section
/-! DEFINITION. Temperature inputs: their thresholds (R182, R191, R194), near status (R182), what an INVALID input counts as (R188, R189),
and the modes of a zone's estimate that no new estimate brings: SEEDED, STALE, INVALID for its record (R44, R185). -/

namespace Sys2Proof.Machine

open Sys2Proof

/-! ### Inputs -/

/-- The number of the diode of a zone's half (R6). -/
def diodeOf (z : Nat) : Nat := if z % 32 < 16 then 0 else 1

/-- Diode `k`. -/
def State.diode (s : State) (k : Nat) : Diode := s.therm.diodes.getD k Diode.reset

/-- Whether diode `k` is an emitter input: TD0 and TD1 (R182). -/
def emitterDiode (k : Nat) : Bool := decide (k < 2)

/-- Zone `z`'s estimate. -/
def State.ztemp (s : State) (z : Nat) : ZoneTemp := s.therm.zones.getD z ZoneTemp.reset

/-- `s` with zone `z`'s estimate replaced. -/
def State.putZtemp (s : State) (z : Nat) (t : ZoneTemp) : State := s.onTherm fun h => { h with zones := h.zones.set z t }

/-- A temperature as State holds it: an s16 (R181). The spec states no value for one outside that format: free (log 29). -/
def heldT10 (v : Int) : Int :=
  if -32768 ≤ v ∧ v ≤ 32767 then v else (BitVec.ofNat 16 (Config.temperature v).toNat).toInt

/-! ### Thresholds -/

/-- D10 of region or input class (R182, R191): the emitter's or the controller's. -/
def State.d10 (s : State) (emitter : Bool) : Int :=
  if emitter then 10 * (s.par K.tjDerate : Int) else 10 * ((s.par K.tctrlShutdown : Int) - 15)

/-- E10 (R191). -/
def State.e10 (s : State) (emitter : Bool) : Int :=
  if emitter then 10 * (s.par K.tjDerateEnd : Int) else 10 * ((s.par K.tctrlShutdown : Int) - 5)

/-- The shutdown threshold (R194). -/
def State.shut10 (s : State) (emitter : Bool) : Int :=
  if emitter then 10 * (s.par K.tjShutdown : Int) else 10 * (s.par K.tctrlShutdown : Int)

/-- The too-hot value of an input (R188). -/
def State.tooHot (s : State) (emitter : Bool) : Int := s.e10 emitter

/-- The level at which an input becomes near (R182). -/
def State.nearLevel (s : State) (emitter : Bool) : Int := s.d10 emitter - 10 * (s.par K.nearLimit : Int)

/-! ### Near inputs (R182) -/

/-- Near and its count of samples below the release level after a sample (R182). -/
def nearStep (thr v : Int) (near : Bool) (below : Nat) : Bool × Nat :=
  if thr ≤ v then (true, 0)
  else if v < thr - 20 then (if near && decide (9 ≤ below) then (false, 0) else (near, if near then below + 1 else 0))
  else (near, 0)

/-- A zone with its near status after a value that it takes (R182). -/
def ZoneTemp.stepNear (t : ZoneTemp) (thr : Int) : ZoneTemp :=
  let n := nearStep thr t.t10 t.near t.below
  { t with near := n.1, below := n.2 }

/-- NEAR_COUNT: inputs near (R182). -/
def State.nearCount (s : State) : Nat :=
  (s.therm.diodes.filter fun d => d.near).length + (s.therm.zones.filter fun z => z.near).length

/-- The input items of an event: SENSOR and zone (Table 17-5); diode k has the code 512 + k. -/
def inputData (code : Nat) : List Byte := if code < 512 then u8 4 ++ u16 code else u8 (code - 512) ++ u16 0xFFFF

/-- The first near input: diodes, then zones (R182). -/
def State.firstNear (s : State) : Nat :=
  match (upTo 4).find? fun k => (s.diode k).near with
  | some k => 512 + k
  | none => ((upTo 512).find? fun z => (s.ztemp z).near).getD 0

/-- EV064 when the count of near inputs has risen from zero (R182). -/
def State.nearRaise (s : State) (was : Nat) : List Raise :=
  if was = 0 ∧ 0 < s.nearCount then [{ ev := 64, data := inputData s.firstNear }] else []

/-! ### An input becoming INVALID (R188, R189) -/

/-- The region of a zone (R190). -/
def regionOf (z : Nat) : Nat := 4 * (z / 32 / 4) + z % 32 / 8

/-- The diode of a region's half (R190). -/
def regionDiode (r : Nat) : Nat := if r % 4 < 2 then 0 else 1

/-- The regions that an input belongs to: zone z's, or a diode's (codes 512 to 515). -/
def regionsOfInput (code : Nat) : List Nat :=
  if code < 512 then [regionOf code]
  else if code < 514 then (upTo 16).filter fun r => regionDiode r == code - 512
  else [16]

/-- T_last where it counts beside the too-hot value: the input set T_r of a throttling region at the last sample (R189). -/
def State.invalidFloor (s : State) (code : Nat) (last : Int) : Option Int :=
  let throttled := (regionsOfInput code).any fun r =>
    let g := s.therm.regions.getD r Region.reset
    decide (g.f < 32768) && g.topInput == some code
  if throttled then some last else none

/-- The value of an INVALID input (R188, R189). -/
def State.invalidValue (s : State) (emitter : Bool) (floor : Option Int) : Int :=
  match floor with
  | some l => max l (s.tooHot emitter)
  | none => s.tooHot emitter

/-- F_r of a throttling region may not rise while an input that set T_r stays INVALID (R189). -/
def State.capRegions (s : State) (code : Nat) : State :=
  s.onTherm fun t => { t with regions := t.regions.mapIdx fun r g =>
    if (regionsOfInput code).contains r ∧ g.f < 32768 ∧ g.topInput = some code then { g with caps := kvSet g.caps code g.f }
    else g }

/-- The caps of an input end when it is INVALID no more (R189). -/
def State.uncapRegions (s : State) (code : Nat) : State :=
  s.onTherm fun t => { t with regions := t.regions.map fun g => { g with caps := kvDel g.caps code } }

/-- A return to valid is a RELEASE record naming EV067 with the input (R187). -/
def State.validAgain (s : State) (code : Nat) : State := (s.uncapRegions code).releaseRecord 67 (inputData code)

/-- EV067 (R187). -/
def invalidRaise (code reason : Nat) : Raise :=
  { ev := 67, data := inputData code ++ u8 reason, lasting := true, check := chkPlausible }

/-- A zone's last valid value: the one in force, whatever its mode, until it becomes INVALID (R185, R189). -/
def ZoneTemp.lastValid (t : ZoneTemp) : Int := if t.mode = .invalid then t.lastT else t.t10

/-- A zone becomes INVALID with a reason (R187 to R189). Looks that are pending wait (R198). -/
def State.invalidateZone (s : State) (z reason : Nat) : State :=
  let t : ZoneTemp := { s.ztemp z with lastT := (s.ztemp z).lastValid }
  let floor := if t.mode = .invalid then t.floor else s.invalidFloor z t.lastT
  let u : ZoneTemp := { t with
    mode := .invalid, reason := reason, floor := floor, t10 := s.invalidValue true floor, newSweep := false, wasInvalid := false }
  (s.capRegions z).putZtemp z (u.stepNear (s.nearLevel true))

/-- Zones whose record has CAL_VALID 0 are INVALID with reason CAL in every state (R44, R183, R185): the zones that newly are. -/
def State.calNewlyBad (s : State) : List Nat :=
  (upTo 512).filter fun z => !s.calValid z && !((s.ztemp z).mode == .invalid && (s.ztemp z).reason == 4)

/-- They become so; their EV067 are the caller's. -/
def State.invalidateCal (s : State) (l : List Nat) : State := l.foldl (fun s z => s.invalidateZone z 4) s

/-- Zones whose record has lost its CAL_VALID become INVALID with reason CAL, and EV067 is raised, after EV064 where near
inputs rise from zero with that (R44, R182, R183). -/
def State.judgeCal (s : State) : State :=
  let l := s.calNewlyBad
  let s1 := s.invalidateCal l
  (s1.nearRaise s.nearCount ++ l.map fun z => invalidRaise z 4).foldl State.raise s1

/-- The values of INVALID inputs follow a change of the objects they are formed from (R188). -/
def State.refreshInvalid (s : State) : State :=
  s.onTherm fun t => { t with
    diodes := t.diodes.mapIdx fun k d => if d.valid then d else { d with t10 := s.invalidValue (emitterDiode k) d.floor }
    zones := t.zones.map fun z => if z.mode == .invalid then { z with t10 := s.invalidValue true z.floor } else z }

/-! ### Sensing of a zone (R150) -/

/-- Whether sensing is available for a zone (R150): not with a faulty ADC, nor while its switch stays open. -/
def State.zoneSensing (s : State) (z : Nat) : Bool :=
  s.sensing && !s.sense.adcFaulty.contains z && !(s.mayClose && !(s.zone z).closed && !(s.zone z).closing)

/-! ### Modes without a new estimate (R185) -/

/-- A zone whose value has reached the shutdown threshold takes its first look; a pending one waits for its next new estimate (R194). -/
def ZoneTemp.firstLook (t : ZoneTemp) (shut : Int) : ZoneTemp :=
  if t.shutLook.isNone ∧ shut ≤ t.t10 then { t with shutLook := some t.t10 } else t

/-- The value of a SUBSTITUTED zone: the reading of its half's diode, and what lay between the two when its last valid value was taken (R185). -/
def State.substituteValue (s : State) (z : Nat) (t : ZoneTemp) : Int := heldT10 ((s.diode (diodeOf z)).raw + (t.lastT - t.tdLast))

/-- A zone for which sensing has become unavailable while it was MEASURED or SEEDED is SUBSTITUTED (R185). It holds its last valid value
while a look is pending (R187), and is near where its value reaches that level (R182). -/
def State.enterSubstituted (s : State) (z : Nat) (t : ZoneTemp) : ZoneTemp :=
  if (t.mode == .measured || t.mode == .seeded) && !s.zoneSensing z then
    let v := if t.look.isSome then t.t10 else s.substituteValue z t
    let u : ZoneTemp := { t with mode := .substituted, t10 := v, near := t.near || decide (s.nearLevel true ≤ v) }
    u.firstLook (s.shut10 true)
  else t

/-- Sensing has become unavailable for zones in LIT or FALLBACK: they are SUBSTITUTED, with EV064 where near inputs rise from zero, and its
return will start their ACQUIRE again (R150, R174, R182, R185). -/
def State.loseSensing (s : State) : State :=
  if !s.lighting then s
  else
    let s1 := (s.onZones fun i z => { z with hadSense := z.hadSense && s.zoneSensing i }).onTherm fun t => { t with
      zones := t.zones.mapIdx s.enterSubstituted }
    (s1.nearRaise s.nearCount).foldl State.raise s1

/-- A zone's estimate at a seeding: the latest reading of the diode of its half (R185). That value is a sample of its near status, as every
value is (R182). It is taken where VLED starts. A zone INVALID with reason CAL whose record has become CAL_VALID 1 is seeded too
(DESIGN CHOICE, log 29). -/
def State.seedTemp (s : State) (z : Nat) (t : ZoneTemp) : ZoneTemp :=
  let d := (s.diode (diodeOf z)).raw
  if !s.calValid z then t
  else
    let u : ZoneTemp := { t with
      mode := .seeded, reason := 0, t10 := d, lastT := d, tdLast := d, sweepsLeft := 2, newSweep := false, wasInvalid := false }
    (u.stepNear (s.nearLevel true)).firstLook (s.shut10 true)

/-- Every zone estimate is seeded (R185). One that was INVALID is valid again with that: a RELEASE record (R187, log 29). -/
def State.seedTemps (s : State) : State :=
  let was := s.nearCount
  let back := (upTo 512).filter fun z => s.calValid z && ((s.ztemp z).wasInvalid || (s.ztemp z).mode == .invalid)
  let s1 := s.onTherm fun t => { t with zones := t.zones.mapIdx fun i z => s.seedTemp i z }
  let s2 := back.foldl State.validAgain s1
  (s2.nearRaise was).foldl State.raise s2

/-- Outside LIT and FALLBACK every zone estimate is STALE, but for those INVALID with reason CAL (R185). Caps of zones that are INVALID
no more end (R189); pending looks wait (R198). Near status stays, with no samples to end it (R182). -/
def State.staleTemps (s : State) : State :=
  let cal := fun (z : ZoneTemp) => z.mode == .invalid && z.reason == 4
  s.onTherm fun t => { t with
    zones := t.zones.map fun z =>
      if cal z then z
      else { z with mode := .stale, reason := 0, wasInvalid := z.wasInvalid || z.mode == .invalid }
    regions := t.regions.map fun g => { g with
      caps := g.caps.filter fun c => decide (512 ≤ c.1) || cal (t.zones.getD c.1 ZoneTemp.reset) } }

end Sys2Proof.Machine
end

