-- ==== Sys2Proof/Machine/Modes.lean ====
section
/-! DEFINITION. Power domains (R349, R356, R366), state entry, the fallback beam's engagement, renders and release (R214 to
R219), SAFE_DARK (R206, R209), MOD_HEALTH (R210), FAULT_N (R211), and the seeding of gains and temperatures (R173, R185). -/

namespace Sys2Proof.Machine

open Sys2Proof

/-! ### Pins -/

/-- The HEALTH pin (R212): LOW (0), 1.000 kHz (1), HIGH (2). STB_N is high while firmware runs above PARK (R284). -/
def State.drivePins (s : State) : State :=
  let up := s.pwr.life == .running && s.pwr.dev != .park
  s.onPwr fun p => { p with health := if !up then 0 else if s.flt.health = 2 then 2 else 1, stbHigh := up }

/-- FAULT_N is released once FAULT_ACK has been written and nothing holds it (R211). -/
def State.judgeFaultN (s : State) : State :=
  if s.flt.faultN && s.flt.faultAcked && s.flt.health != 2 && s.flt.reactions.isEmpty then
    s.onFlt fun f => { f with faultN := false }
  else s

/-! ### Domains (R356 to R359, R366, R425) -/

/-- Whether a switched domain is powered (R349). -/
def State.powered (s : State) : Domain → Bool
  | .link => s.pwr.link | .comp => s.pwr.comp | .scan => s.pwr.scan | .emit => s.pwr.emit | .aux => s.pwr.aux

/-- The steps of a power-up in their order (R356). -/
def powerUpSteps : List PowerStep := [.switchClosed, .sramRaised, .clocksStarted, .clampsReleased]

/-- The steps of a power-down: the reverse order, the clamps first and the clocks before the reset (R356). -/
def powerDownSteps : List PowerStep := [.clampsSet, .clocksStopped, .resetApplied, .sramLowered, .switchOpened]

/-- A domain has gone through its steps; none is MGMT. -/
def State.sequenced (s : State) (d : Option Domain) (steps : List PowerStep) : State :=
  s.onPwr fun p => { p with steps := (p.steps.filter fun e => decide (e.1 ≠ d)) ++ [(d, steps)] }

/-- COMP powers up: its frame store bank is filled with code 0, what does not survive reads as at reset, and waiting scans start
(R279, R317, R357). -/
def State.compUp (s : State) : State :=
  if s.pwr.comp then s
  else
    let s1 := { s with
      pwr := { s.pwr with comp := true }
      tim := { s.tim with bank0 := [], bank1 := [] }
      comp := { s.comp with
        zoneSums := [], zoneSumTag := 0, monitor := [], monForming := none } }
    (s1.sequenced (some .comp) powerUpSteps).startScan

/-- COMP powers down: a frame not yet swapped is abandoned and its commit returns to the pending slot (R425); scans end (R279). -/
def State.compDown (s : State) : State :=
  let s1 := s.abandonReturning
  let s2 := { s1 with
    pwr := { s1.pwr with comp := false }
    comp := { s1.comp with
      zoneSums := [], zoneSumTag := 0, monitor := [], monForming := none, monSeq := 0, monFrame := 0, monTag := 0 } }
  (if s.pwr.comp then s2.sequenced (some .comp) powerDownSteps else s2).abortScan (fun _ => true) 3

/-- SCAN powers up: the served count is FRAME_MIN_CYC, every latch holds code 0 and the displayed frame is code 0 (R49, R366). -/
def State.scanUp (s : State) : State :=
  if s.pwr.scan then s
  else
    let s := s.sequenced (some .scan) powerUpSteps
    { s with
      pwr := { s.pwr with scan := true }
      tim := { s.tim with
        served := s.tim.minCyc, boundaryAt := s.now, count := 0, slotZero := false, heldRaised := false, loadDone := false,
        loadRow := none, lastLoaded := none, reload := false, underruns := 0, stopped := false, lockOk := true, fs1Displayed := false,
        disp := Frame.reset, maxFired := false, shadow := [], active := [] } }

/-- SCAN powers down: PROBE_RESULTS and the map do not survive (R317). MAP_SEQ counts on, and reads 0 until the next map
gives it again (R145). -/
def State.scanDown (s : State) : State :=
  let s := if s.pwr.scan then s.sequenced (some .scan) powerDownSteps else s
  { s with
    pwr := { s.pwr with scan := false }
    sense := { s.sense with
      records := [], recSeq := 0, recTstamp := 0, recPattern := 0, recFlags := 0, map := [], mapShown := 0, mapTstamp := 0,
      mapN := 0, mapFlags := 0,
      inCycle := false, started := false } }

/-- EMIT powers down: every switch is open, and the control engine's gains and CAPTURE do not survive (R317, R358). ZONE_CURRENT keeps
its samples, which R317 does not name (R36). -/
def State.emitDown (s : State) : State :=
  let s1 := if s.pwr.emit then s.vledOff.sequenced (some .emit) powerDownSteps else s.vledOff
  { s1 with
    pwr := { s1.pwr with emit := false }
    sup := { s1.sup with gzHeld := false, capture := [] }
    zones := s1.zones.map fun z => { z.openNow s.now with closing := false } }

/-- EMIT powers up, with every zone switch open (R356). -/
def State.emitUp (s : State) : State :=
  if s.pwr.emit then s else (s.onPwr fun p => { p with emit := true }).sequenced (some .emit) powerUpSteps

/-- The active width w of the Vexlink lanes (R226). -/
def State.vxLanes (s : State) : Nat := 2 ^ s.par K.vxWidth

/-- LINK powers up and its receiver comes up blind; its transmitter sends fill (R233). -/
def State.linkUp (s : State) : State :=
  if s.pwr.link then s
  else
    let s := s.sequenced (some .link) powerUpSteps
    { s with
      pwr := { s.pwr with link := true }
      vex := { s.vex with rx := .lock, rxLane := .l0, txLane := .l0 } }

/-- LINK powers down: what is in flight on the output completes, or ends in K30.7, the transmitter announces GOING_L2, and both directions
are in L2 (R230, R242, R243). -/
def State.linkDown (s : State) : State :=
  let s := if s.pwr.link then s.sequenced (some .link) powerDownSteps else s
  let v := if s.pwr.link && s.vex.txLane == .l0 then s.vex.finish else s.vex
  { s with
    pwr := { s.pwr with link := false }
    vex := { v with
      rx := .off, rxLane := .l2, txLane := .l2, restart := false, retryDue := false, wakeLock := false, sending := .nothing, fwd := [],
      fwdOpen := false, out := if s.pwr.link && s.vex.txLane == .l0 then .announce 2 :: v.out else v.out } }

/-- AUX powers down: the segments are dark and the chain is blanked (R358, Table 18-4). A loopback's pending second look waits (R198). -/
def State.auxDown (s : State) : State :=
  let s := if s.pwr.aux then s.sequenced (some .aux) powerDownSteps else s
  { s with
    pwr := { s.pwr with aux := false }
    aux := { s.aux with
      matrixOn := false, matrixStarts := false, chain := 0, line := none, onTimes := [], shifting := false, complete := false,
      kept := none, blankHigh := true } }

/-- AUX powers up: the parts that AUX_ENABLE turns on start at the next auxiliary frame (R405, R407). -/
def State.auxUp (s : State) : State :=
  if s.pwr.aux then s
  else
    let s := s.sequenced (some .aux) powerUpSteps
    let v := s.par K.auxEnable
    { s with
      pwr := { s.pwr with aux := true }
      aux := { s.aux with matrixOn := bitOf v 0, matrixStarts := bitOf v 0, chain := b2n (bitOf v 1) } }

/-- Every domain of READY and above is powered, and the compositor of a COMP woken on demand leaves reset (R357, Table 18-2). -/
def State.powerAll (s : State) : State :=
  let s1 := s.compUp.scanUp.linkUp.auxUp
  (s1.emitUp.onPwr fun p => { p with onDemand := [] }).onComp fun c => { c with inReset := false }

/-- The module is in the controller-shutdown form of SAFE_DARK, which powers only AON and MGMT (R194, R349). -/
def State.ctrlDark (s : State) : Bool := s.therm.ctrlOff && s.pwr.dev == .safeDark

/-- Every switched domain is off: AON and MGMT only (Table 18-2). -/
def State.powerNone (s : State) : State := s.compDown.scanDown.emitDown.auxDown.linkDown

/-- The domains of SAFE_DARK: all of them, but none of the switched ones after a controller shutdown (R194, R349). -/
def State.powerDark (s : State) : State := if s.therm.ctrlOff then s.powerNone else s.powerAll

/-- Whether AUX stays powered in STANDBY (Table 18-2). -/
def State.auxWanted (s : State) : Bool := s.par K.auxEnable != 0

/-- The domains of STANDBY: COMP, SCAN and EMIT off; LINK stays on while a lane is outside L2; AUX while AUX_ENABLE is not OFF
(Table 18-2). -/
def State.powerStandby (s : State) : State :=
  let s1 := s.compDown.scanDown.emitDown
  let s2 := if s1.auxWanted then s1.auxUp else s1.auxDown
  let s3 := if s2.vex.rxLane == .l2 && s2.vex.txLane == .l2 then s2.linkDown else s2
  s3.onPwr fun p => { p with onDemand := [] }

/-! ### Sense cycles and lighting -/

/-- The sense cycle in progress ends and its results are discarded (R130, R148). -/
def State.cutSense (s : State) : State :=
  if s.sense.inCycle then
    s.onSense fun e => { e with
      inCycle := false, cells := .emit, discard := false, mapNew := none, lum := [], vf := [], sweepEnds := false,
      recFlags := if e.lum.isEmpty then e.recFlags else 2 + e.recFlags % 2
      records := if e.lum.isEmpty then e.records else e.records.map fun r => { r with flags := setAdd r.flags 19 } }
  else s

/-- Sensing has returned for zones in LIT or FALLBACK for which it was unavailable: their ACQUIRE starts again (R150, R174). -/
def State.regainSensing (s : State) : State :=
  if s.lighting then s.onZones fun i z =>
    if s.zoneSensing i && !z.hadSense then { z with mode := 0, sweepsLeft := 2, hadSense := true } else z
  else s

/-- EV036 is raised once for each interval without sensing in LIT or FALLBACK (R150). -/
def State.raiseAway (s : State) : State :=
  if s.lighting && !s.sensing && !s.sense.unavailRaised then
    (s.onSense fun e => { e with unavailRaised := true }).raise { ev := 36, data := u8 s.senseState }
  else s

/-- Sensing is judged: while it is unavailable in LIT or FALLBACK, EV036 has been raised and its zones are SUBSTITUTED (R150, R185). -/
def State.judgeSensing (s : State) : State :=
  if s.lighting && !s.sensing then s.raiseAway.loseSensing
  else (s.onSense fun e => { e with unavailRaised := false }).regainSensing

/-! ### Seeding (R173, R174, R185, R376) -/


/-- The seed of a zone's Gz (R44, R173). -/
def State.gzSeed (s : State) (z : Nat) : Nat :=
  if !s.calValid z then 16384
  else if s.sup.gzHeld then (s.zone z).gz
  else match s.flash.gz.value with
    | some l => l.getD z 16384
    | none => s.gzFactory z

/-- The active source of a zone at a seeding (R170): LUM (true) or CAL. -/
def State.sourceSeed (s : State) (z : Nat) : Bool :=
  match s.par K.gainSource with
  | 0 => false
  | 1 => true
  | _ => s.senseState == 0 && !s.sense.adcFaulty.contains z && decide ((s.zone z).lumValid < 8)

/-- The value that GZ_STORE holds for each zone, as R173 compares it with Gz; without a valid record the seed taken in its place (log 30). -/
def State.loadStored (s : State) : State :=
  s.onZones fun i z => { z with stored := match s.flash.gz.value with
    | some l => l.getD i 16384
    | none => s.gzFactory i }

/-- A following-error run of a zone that ends before its time expires is counted (R175). -/
def Zone.endRun (z : Zone) : Zone :=
  if z.fePending then { z with feTimer := 0, fePending := false, transients := (z.transients + 1) % 65536 } else { z with feTimer := 0 }

/-- The record of a following-error run that ended TRANSIENT: RHO at its start and at its end (R175, R341). -/
def State.noteRun (s : State) (first last : Nat) : State := s.noteTransient chkZoneFe (u16 first ++ u16 last)

/-- The following-error runs of every zone end as TRANSIENT: ACQUIRE holds the timers at zero (R174, R175). -/
def State.endRuns (s : State) : State :=
  (s.zones.filter Zone.fePending).foldl (fun s z => s.noteRun z.feFirst z.rho) (s.onZones fun _ z => z.endRun)

/-- Every zone's Gz and active source are seeded and ACQUIRE begins (R173, R174). No gain period is due, and no ZONE_VF has been delivered
since (R157, R167). -/
def State.seedZones (s : State) : State :=
  (s.endRuns.onZones fun i z =>
    { z with
      gz := s.gzSeed i, lumSource := s.sourceSeed i, mode := 0, sweepsLeft := 2, refused := false, hadSense := true, vfFresh := false,
      awayDue := false }).onSup fun u => { u with gzHeld := true, injAt := none, gainDue := false }

/-- The gains are seeded where VLED starts, and the storms of the runs that this ends are judged (R199): an unrecoverable GZ_STORE raises
EV119 (R282). An absent one has its SYSTEM record from the boot or the resume. -/
def State.seedGains (s : State) : State :=
  let s1 := (s.seedZones.judgeStormsSince s.flt.counts).onSup fun u => { u with gzRead := !s.sup.gzHeld }
  if s.sup.gzHeld then s1
  else if s.flash.gz.lost then s1.raise { ev := 119, data := u16 1 } else s1


/-- VLED is started on the way to LIT or FALLBACK from a state in which it was off (R155, R173, R185). The estimates are seeded here, at the
start of VLED, so that they are SEEDED in soft start too (DESIGN CHOICE, log 29). `own`: an event of the same instant (R337). -/
def State.beginLight (s : State) (own : List Raise) : State :=
  if s.sup.vledOn && !s.sup.offDue then own.foldl State.raise s
  else
    let s1 := if s.sup.offDue then (s.openAll .state true).vledOff else s
    ((own.foldl State.raise s1.seedTemps).seedGains).beginSoftStart

/-- What ends when the module leaves LIT and FALLBACK (R130, R149, R179, R185). -/
def State.leaveLight (s : State) : State :=
  let s1 := (s.stopInjection 2).cutSense.staleTemps
  s1.onSense fun e => { e with
    started := false, repeating := false, repeatNext := false
    resumeAt := if s.senseState = 1 then none else e.resumeAt }

/-! ### Health and SAFE_DARK (R206, R209, R210) -/

/-- A SAFE_DARK cause is recorded; FAILED replaces all (R209). -/
def addDark (l : List DarkCause) (c : DarkCause) : List DarkCause :=
  if c = .failed then [.failed] else if l.contains .failed then l else enumAdd l c

/-- The fallback renderer stops: its unswapped frame is abandoned, and the compositor leaves reset (R218, R219). The THERMAL cause and
its hold last until a host's LIT (R196). -/
def State.stopRenderer (s : State) : State :=
  let s1 := match s.tim.work with
    | some f => if f.kind == FrameKind.fallback then s.abandonWork else s
    | none => s
  { s1 with
    comp := { s1.comp with inReset := false }
    flt := { s1.flt with
      fbCauses := s1.flt.fbCauses.filter (· == .thermal), fbImage := 255, renderOn := false, renderHeld := false } }

/-- The module is in SAFE_DARK with the causes recorded: every zone switch opens IMMEDIATE, VLED turns off and a transition in progress
ends (R155, R206, R209). -/
def State.goSafeDark (s : State) (oc : OpenCause) : State :=
  let was : DevState := s.pwr.dev
  let s2 := (s.onPwr fun p => { p with trans := none }).goDark oc
  if was == .safeDark then s2
  else
    let s3 := if was == .lit || was == .fallback then s2.leaveLight else s2.staleTemps
    let s4 := if was == .fallback then s3.stopRenderer else s3
    (s4.powerDark.onPwr fun p => { p with dev := .safeDark, readyAt := s.now }).queueStatus

/-- SAFE_DARK with a cause before MOD_HEALTH is judged again: the cause is recorded (R209). An entry with cause SUPERVISOR allows one attempt
at the fallback beam. -/
def State.darken (s : State) (d : DarkCause) (oc : OpenCause) : State :=
  let s1 := s.onPwr fun p => { p with
    dark := addDark p.dark d, faultAckSeen := if d = .fault then false else p.faultAckSeen }
  let s2 := if d = .supervisor ∧ s.pwr.dev ≠ .safeDark then s1.onFlt fun f => { f with limpTried := false } else s1
  s2.goSafeDark oc

/-- MOD_HEALTH takes the highest state whose criteria hold (R210): each change raises EV087 and sends STATUS (R263); entry to
FAILED enters SAFE_DARK. -/
def State.judgeHealth (s : State) : State :=
  let reasons := s.healthBits
  let old := s.flt.health
  let new := healthOf old reasons
  let s1 := s.onFlt fun f => { f with reasons := reasons, health := new }
  if new = old then s1
  else
    let s2 := s1.raise { ev := 87, data := u8 new ++ u8 old ++ u32 (bitsNat reasons), fixedSev := if new = 2 then some 3 else none }
    let s3 := s2.queueStatus
    let s4 := if new = 2 && s3.pwr.life == .running then s3.darken .failed .state else s3
    s4.drivePins.judgeFaultN

/-- SAFE_DARK is entered, or a further cause recorded (R209). -/
def State.enterDark (s : State) (d : DarkCause) (oc : OpenCause) : State := ((s.darken d oc).judgeSensing).judgeHealth

/-! ### Fallback images and renders (R213 to R217) -/

/-- A render starts (R215): the snapshot of R39 with the box set then in force. With no usable image the module enters
SAFE_DARK with cause NO_IMAGE (R214). -/
def State.startRender (s : State) : State :=
  match s.selectImage with
  | none => (s.onFlt fun f => { f with wbNoImage := true, fbImage := 255 }).enterDark .noImage .state
  | some (i, data) =>
    let f := s.snapshot (s.sampleBoxes { s.newFrame .fallback none none s.tim.displayedTag none with binds := [], filters := [data] })
    let s1 := s.onTim fun t => { t with
      work := some f, loadRow := none, loadDone := false, reload := false, lastLoaded := none }
    s1.onFlt fun g => { g with
      fbImage := i, wbNoImage := false, renders := inc32 g.renders 1, lastRender := s.now, renderOn := true, renderHeld := false }

/-- A render trigger in FALLBACK (R217): held while a render is in progress or its frame has not swapped, and during a Rally hand-over
(R388). -/
def State.fireRender (s : State) : State :=
  if s.pwr.dev == .fallback then
    if s.flt.renderOn || s.rally.phase == .handover then s.onFlt fun f => { f with renderHeld := true } else s.startRender
  else s

/-- The bit number of a cause in FB_STATUS CAUSES (Table 15-34). -/
def FbCause.num : FbCause → Nat
  | .hostLost => 0 | .limpN => 1 | .lightOnNoHost => 2 | .reaction => 3 | .thermal => 4

/-- The fallback beam engages (R218): the compositor is held in reset, DEV_STATE reads FALLBACK, EV085 is raised and a render
starts. With no usable image the module enters SAFE_DARK instead (R214). -/
def State.engageNow (s : State) (c : FbCause) : State :=
  match s.selectImage with
  | none => (s.onFlt fun f => { f with wbNoImage := true, fbImage := 255 }).enterDark .noImage .state
  | some (i, _) =>
    let s1 := s.abandonReturning.powerAll
    let s2 := s1.onPwr fun p => { p with dev := .fallback, trans := none, readyAt := s.now }
    let s3 := s2.onComp fun m => { m with inReset := true }
    let s4 := s3.onFlt fun f => { f with fbCauses := enumAdd f.fbCauses c, fbImage := i }
    let s5 := s4.raiseAway.beginLight [{ ev := 85, data := u8 c.num ++ u8 i }]
    s5.startRender.queueStatus.drivePins.judgeSensing.judgeHealth

/-- A fallback cause (R218): it engages the beam from READY, LIT or STANDBY, is added while engaged, and never acts in FAILED or
SERVICE. A module that left SAFE_DARK for STANDBY returns to SAFE_DARK (R352). During a Rally hand-over it is held (R388). -/
def State.engage (s : State) (c : FbCause) : State :=
  if s.pwr.life != .running || s.flt.health == 2 then s
  else if s.rally.phase == .handover then s.onRally fun r => { r with heldFallback := enumAdd r.heldFallback c }
  else match s.pwr.dev with
  | .fallback => s.onFlt fun f => { f with fbCauses := enumAdd f.fbCauses c }
  | .ready => s.engageNow c
  | .lit => s.engageNow c
  | .standby =>
    match s.pwr.dark with
    | [] => s.engageNow c
    | _ :: _ => (s.goSafeDark .state).judgeSensing.judgeHealth
  | _ => s

/-- The fallback beam engages from SAFE_DARK, where Table 10-4 allows it, and the causes recorded are left behind (R209). With no usable
image the module stays in SAFE_DARK, with NO_IMAGE among them (R214). With LIMP_N low its cause is recorded too (Table 10-7). -/
def State.engageFromDark (s : State) (c : FbCause) : State :=
  if s.selectImage.isNone then (s.onFlt fun f => { f with wbNoImage := true, fbImage := 255 }).enterDark .noImage .state
  else
  let s1 := s.onPwr fun p => { p with dark := [] }
  let s2 := s1.onSup fun u => { u with feLeft := if s.pwr.dark.contains .supervisor then some s.now else u.feLeft }
  let s3 := s2.onFlt fun f => { f with reactions := f.reactions.filter (· < 512) }
  let s4 := s3.engageNow c
  if s4.pwr.limpLow then s4.engage .limpN else s4

/-! ### Entry to READY, LIT and the release of the fallback beam -/

/-- The module enters READY from above or below: VLED is off, and a pending commit starts its composition (R54, R425). From FALLBACK this
is a release of the beam, with a RELEASE refresh where the pending slot is empty (R219, Table 3-4). -/
def State.enterReady (s : State) : State :=
  let was : DevState := s.pwr.dev
  let s1 := if was == .lit || was == .fallback then s.leaveLight else s
  let s2 := if was == .fallback then s1.stopRenderer else s1
  let s3 := if s2.sup.offDue || s2.sup.vledOn && was != .ready then (s2.openAll .state true).vledOff else s2
  let s4 := s3.powerAll.onPwr fun p => { p with dev := .ready, dark := [], readyAt := s.now }
  let s5 := s4.onSup fun u => { u with feLeft := if s.pwr.dark.contains .supervisor then some s.now else u.feLeft }
  let s6 := s5.onFlt fun f => { f with reactions := f.reactions.filter (· < 512) }
  let s7 := s6.onTherm fun t => if s.pwr.dark.contains .thermal then { t with restart := 0, shutCause := 0, shutKinds := [], ctrlOff := false } else t
  let s8 := if was == .ready then s7 else s7.queueStatus
  let s9 := s8.judgeSensing.judgeHealth.judgeFaultN
  if was == .fallback then s9.fire .release else s9.startPending

/-- DEV_STATE reads LIT (Table 18-3). -/
def State.enterLit (s : State) : State :=
  let s1 := s.onPwr fun p => { p with dev := .lit, readyAt := s.now }
  s1.queueStatus.judgeSensing.judgeHealth

/-- Zone switches open ORDERLY with cause STATE, and VLED turns off once they are open (R33, R155). -/
def State.beginLeaveLight (s : State) : State :=
  ((s.openAll .state false).onSup fun u => { u with offDue := true }).vledOffIfOpen

/-- The release record of the fallback beam (R219); the spec does not state its DATA: free bytes (log 8). -/
def State.releaseFree (s : State) (ev : Nat) : State :=
  let (d, s1) := s.drawUnstated 32
  s1.releaseRecord ev d

/-- With every cause of the fallback beam cleared, no host present and no pin requesting light, the module goes to READY (R219). -/
def State.judgeRelease (s : State) : State :=
  if s.pwr.dev == .fallback && s.flt.fbCauses.isEmpty && !s.flt.hostPresent && !s.pwr.lightOn && !s.pwr.limpLow &&
      s.pwr.trans.isNone then
    (s.beginLeaveLight.onPwr fun p => { p with trans := some ⟨[.ready]⟩ }).releaseFree 85
  else s

/-- A cause of the fallback beam clears (R219). -/
def State.clearFb (s : State) (c : FbCause) : State :=
  (s.onFlt fun f => { f with fbCauses := enumDel f.fbCauses c }).judgeRelease

/-- The release of the fallback beam to a host (R219): the compositor leaves reset and composes the pending commit, or a
RELEASE refresh. -/
def State.releaseToHost (s : State) : State :=
  let s1 := s.stopRenderer.releaseFree 85
  (s1.enterLit).fire .release

/-! ### Reactions (R206 to R208) -/

/-- A reaction to a fault (R206): its level, the zones that ZONE_BLANK opens, and the severity of its event. -/
structure Reaction where
  level    : Nat
  zones    : List Nat
  severity : Nat
  deriving DecidableEq, Repr

/-- A reaction whose event has severity 2 or more holds FAULT_N for the zones it opened; 512 is the module (R211). -/
def State.holdFaultN (s : State) (severity : Nat) (zones : List Nat) : State :=
  if 2 ≤ severity then s.onFlt fun f => { f with reactions := zones.foldl setAdd f.reactions } else s

/-- The reactions to the faults of one instant (R206, R208), after their events, so that what they raise comes in ascending number (R337):
ZONE_BLANK (2) opens the zones it names, FALLBACK_BEAM (3) engages the fallback beam, unless MOD_HEALTH is FAILED with those zones,
SAFE_DARK (4) darkens the module. REPORT (0) does nothing; WINDOW_BLANK (1) acts under R126. -/
def State.reactAll (s : State) (l : List Reaction) : State :=
  let blanks := l.filter fun r => r.level == 2
  let darks := l.filter fun r => r.level == 4
  let s1 := blanks.foldl (fun s r => (s.openZones r.zones .fault true).holdFaultN r.severity r.zones) s
  let s2 := if (l.any fun r => r.level == 3) && healthOf s1.flt.health s1.healthBits != 2 then s1.engage .reaction else s1
  let s3 := darks.foldl (fun s r => s.holdFaultN r.severity [512]) s2
  if !darks.isEmpty then s3.enterDark .fault .state
  else if !blanks.isEmpty then s3.judgeHealth
  else s3

/-- The reaction to one fault (R206). -/
def State.react (s : State) (level : Nat) (zones : List Nat) (severity : Nat) : State := s.reactAll [⟨level, zones, severity⟩]

/-- Whether a write of READY or LIT is accepted in SAFE_DARK (R209). -/
def State.darkAllows (s : State) : Bool :=
  !s.pwr.dark.contains .failed && (!s.pwr.dark.contains .fault || s.pwr.faultAckSeen) &&
  (!s.pwr.dark.contains .thermal || s.therm.restart == 2)

end Sys2Proof.Machine
end

