-- ==== Sys2Proof/Machine/FaultOps.lean ====
section
/-! DEFINITION. The zone current check (R166, R204), the stuck-on rule (R203), and pixel classification and judgement (R200 to
R202). -/

namespace Sys2Proof.Machine

open Sys2Proof

/-! ### Zone current check (R204) -/

/-- Whether a zone lies in a band that holds a substituted row of the displayed frame (R62). -/
def State.bandMixed (s : State) (z : Nat) : Bool := s.tim.disp.mixedRows.any fun r => r / 32 == z / 32

/-- 10 x |I_meas - I_pred| > I_pred + 20,000 for I_meas = sum / cnt and I_pred = pred8192 / 8192 (R204). -/
def currentFails (sum cnt pred8192 : Nat) : Bool :=
  let meas : Int := (sum : Int) * 8192
  let pred : Int := (pred8192 : Int) * cnt
  decide (pred + 20000 * 8192 * cnt < 10 * (meas - pred).natAbs)

/-- 8,192 times I_pred of a zone in uA: (8 + IREF) x SUM_DISP (R166, R204). -/
def State.predicted (s : State) (z : Nat) : Nat :=
  (8 + s.tim.disp.iref.getD z 40) * s.glare.sumDisp.getD z 0

/-- What the check at a swap says of one zone: its next state, the events, and the TRANSIENT records, each a list of looks'
values (R204). -/
structure ZoneVerdict where
  zone  : Zone
  normal : Option (Nat × Nat)
  openSw : Option Nat
  passed : List (Nat × Nat)
  deriving DecidableEq, Repr

/-- The check of zone `z` at a swap (R204). -/
def State.checkZone (s : State) (z : Nat) : ZoneVerdict :=
  let q := s.zone z
  let cleared := { q with eligSum := 0, eligCnt := 0, openSeen := false, openMax := 0, whole := false }
  let v0 : ZoneVerdict := ⟨cleared, none, none, []⟩
  let v1 :=
    if 4 ≤ q.eligCnt && !s.glare.sumDisp.isEmpty then
      let meas := rhu q.eligSum q.eligCnt
      match currentFails q.eligSum q.eligCnt (s.predicted z), q.lookNormal with
      | true, none => { v0 with zone := { v0.zone with lookNormal := some meas } }
      | true, some _ => { v0 with zone := { v0.zone with lookNormal := none }, normal := some (meas, rhu (s.predicted z) 8192) }
      | false, some first => { v0 with zone := { v0.zone with lookNormal := none }, passed := [(first, meas)] }
      | false, none => v0
    else v0
  if q.openSeen then
    match decide (2000 < q.openMax), q.lookOpen with
    | true, none => { v1 with zone := { v1.zone with lookOpen := some q.openMax } }
    | true, some _ => { v1 with zone := { v1.zone with lookOpen := none }, openSw := some q.openMax }
    | false, some first => { v1 with zone := { v1.zone with lookOpen := none }, passed := v1.passed ++ [(first, q.openMax)] }
    | false, none => v1
  else v1

/-- EV082 of a LASTING zone current judgement (R204). The OPEN_SWITCH case is raised at severity 3; its I_pred is 0. -/
def State.raiseCurrent (s : State) (z meas pred : Nat) (openCase : Bool) : State :=
  let data := u16 z ++ u32 meas ++ u32 pred ++ u8 (b2n openCase)
  s.raise { ev := 82, data := data, lasting := true, check := chkCurrent, fixedSev := if openCase then some 3 else none }

/-- The reaction to a LASTING zone current judgement (R206). -/
def State.currentReaction (s : State) (z : Nat) (openCase : Bool) : Reaction :=
  ⟨s.par (if openCase then K.reactZoneOpen else K.reactZoneNormal), [z], if openCase then 3 else s.evSeverity 82⟩

/-- The verdicts on every zone at a swap (R204). -/
def State.currentVerdicts (s : State) : List ZoneVerdict := (upTo 512).map s.checkZone

/-- The zones after their check at a swap: accumulators cleared, looks as judged (R204). -/
def State.takeVerdicts (s : State) (vs : List ZoneVerdict) : State := { s with zones := vs.map ZoneVerdict.zone }

/-- The LASTING judgements of a swap: zone, I_meas, I_pred, and whether OPEN_SWITCH (R204). -/
def lastingCurrents (vs : List ZoneVerdict) : List (Nat × Nat × Nat × Bool) :=
  (vs.zipIdx.map fun e =>
    (e.1.normal.toList.map fun v => (e.2, v.1, v.2, false)) ++ e.1.openSw.toList.map fun m => (e.2, m, 0, true)).flatten

/-- The TRANSIENT and LASTING judgements of the zone current check (R204): each raises its event, and then they take their reactions (R208). -/
def State.raiseCurrents (s : State) (vs : List ZoneVerdict) : State :=
  let s1 := ((vs.map ZoneVerdict.passed).flatten).foldl (fun s p => s.noteTransient chkCurrent (u32 p.1 ++ u32 p.2)) s
  let found := lastingCurrents vs
  let s2 := found.foldl (fun s e => s.raiseCurrent e.1 e.2.1 e.2.2.1 e.2.2.2) s1
  s2.reactAll (found.map fun e => s2.currentReaction e.1 e.2.2.2)

/-! ### Stuck-on pixels inside active boxes (R203) -/

/-- The pixels recorded STUCK_ON, as indexes. -/
def State.stuckPixels (s : State) : List Nat := (s.defects.filter fun e => e.2 == 3).map (·.1)

/-- Whether a pixel lies inside an active box: one of the displayed frame's set (R116). -/
def State.inActiveBox (s : State) (i : Nat) : Bool := s.tim.disp.inBox (i % 2048) (i / 2048)

/-- The zone of a pixel index. -/
def zoneOfIdx (i : Nat) : Nat := zoneOf (i % 2048) (i / 2048)

/-- The zones that hold a STUCK_ON pixel inside an active box. -/
def State.stuckZones (s : State) : List Nat :=
  (s.stuckPixels.filter s.inActiveBox).foldl (fun a i => setAdd a (zoneOfIdx i)) []

/-- Zones with a STUCK_ON pixel inside an active box are held open IMMEDIATE; others so held close again (R203). -/
def State.judgeStuck (s : State) : State :=
  let bad := s.stuckZones
  let may := s.mayClose
  s.onZones fun i z =>
    if bad.contains i then (if z.stuckHold then z else { z with stuckHold := true }.openNow s.now)
    else if z.stuckHold then
      let z := { z with stuckHold := false }
      if may then z.schedule else z
    else z

/-- The zones opened ORDERLY for a first look of STUCK_ON inside an active box (R203): those of the pixels whose look is
pending. -/
def State.judgeStuckLooks (s : State) : State :=
  let bad := ((s.flt.looks.filter fun e => match e.2 with
    | .code 3 _ => s.inActiveBox e.1
    | _ => false).map (·.1)).foldl (fun a i => setAdd a (zoneOfIdx i)) []
  let may := s.mayClose
  s.onZones fun i z =>
    if bad.contains i then (if z.stuckLook then z else { z with stuckLook := true }.openOrderly)
    else if z.stuckLook then
      let z := { z with stuckLook := false }
      if may then z.schedule else z
    else z

/-! ### Pixel classification (R200 to R202) -/

/-- The map code of a class (Table 10-2). -/
def PixelClass.code : PixelClass → Option Nat
  | .stuckOn => some 3 | .short => some 2 | .isOpen => some 2 | .dim => some 1 | _ => none

/-- The number of a class in EV080 (Table 17-5). -/
def PixelClass.num : PixelClass → Nat
  | .isOpen => 0 | .short => 1 | .dim => 2 | .stuckOn => 3 | .cross => 4 | _ => 0xFF

/-- The class of a probe record (Table 10-2). -/
def classify (nolight : Nat) (r : ProbeRec) : PixelClass :=
  let f := fun b => r.flags.contains b
  if f 8 || f 9 || f 10 || f 19 then .unusable
  else if f 17 then .stuckOn
  else if decide (r.ratio < nolight) && (f 16 || r.vf == 0) then .short
  else if decide (r.ratio < nolight) then .isOpen
  else if f 12 then .dim
  else if f 13 || f 14 then .cross
  else .clean

/-- Whether a record that shows light carries VF_HIGH or VF_LOW: a VF anomaly (R200). -/
def vfAnomaly (nolight : Nat) (r : ProbeRec) : Bool :=
  let f := fun b => r.flags.contains b
  !(f 8 || f 9 || f 10 || f 19) && decide (nolight ≤ r.ratio) && (f 15 || f 16)

/-- Pixel `k` of pattern `p` as an index (R132). -/
def probePixel (p k : Nat) : Nat := 2048 * (8 * (k / 256) + p / 8) + 8 * (k % 256) + p % 8

/-- A class as a finding against what is recorded (R201). -/
def findingOf (recorded : Nat) (onCross : Bool) (c : PixelClass) : Option Finding :=
  match c.code with
  | some m => if recorded < m then some (.code m c.num) else none
  | none => if c = .cross ∧ recorded = 0 ∧ !onCross then some .cross else none

/-- The pending look of a pixel. -/
def State.pixelLook (s : State) (i : Nat) : Option Finding := kvGet s.flt.looks i

/-- What one usable record does to a pixel's pending look (R201): the new pending look, and a judgement: TRANSIENT (none), or
LASTING with the map code (none for CROSS) and the class number. -/
def judgePixel (pending now : Option Finding) : Option Finding × Option (Option (Option Nat × Nat)) :=
  match pending, now with
  | none, n => (n, none)
  | some (.code a ca), some (.code b cb) => (none, some (some (some (min a b), if b ≤ a then cb else ca)))
  | some (.code _ _), n => (n, some none)
  | some .cross, some .cross => (none, some (some (none, 4)))
  | some .cross, n => (n, some none)

/-- The class byte of a look, for a TRANSIENT record. -/
def lookByte : Option Finding → Nat
  | some (.code _ c) => c
  | some .cross => 4
  | none => 0xFF

/-- The calibration store with a pixel's defect code replaced (R42, R43). -/
def setDefect (cal : List Host.Cell) (i code : Nat) : List Host.Cell :=
  let a := 0x100000 + i / 4
  let old := (memGet cal a).toNat
  let sh := 2 * (i % 4)
  memWrite cal a [BitVec.ofNat 8 (old - bits old sh 2 * 2 ^ sh + code * 2 ^ sh)]

/-- The calibration store with a pixel's defect code raised: the fault logic never lowers one (R43). -/
def raiseDefect (cal : List Host.Cell) (i code : Nat) : List Host.Cell :=
  if defectIn cal (i % 2048) (i / 2048) < code then setDefect cal i code else cal

/-- LASTING pixel judgements of one sense cycle in the order found. -/
structure PixelJudge where
  state : State
  found : List (Nat × Nat)

/-- One record of a sense cycle enters the fault logic (R200, R201, R202). -/
def PixelJudge.look (j : PixelJudge) (p k : Nat) (r : ProbeRec) : PixelJudge :=
  let s := j.state
  let nolight := s.par K.nolightRatio
  let s := if vfAnomaly nolight r then s.onFlt fun f => { f with vfAnomalies := inc32 f.vfAnomalies 1 } else s
  let c := classify nolight r
  let i := probePixel p k
  if c = .unusable then { j with state := s }
  else
    let pending := s.pixelLook i
    let now := findingOf (s.defect (i % 2048) (i / 2048)) (s.flt.cross.contains i) c
    let (next, verdict) := judgePixel pending now
    let s1 := if next = pending then s else s.onFlt fun f => { f with looks := match next with
      | some n => kvSet f.looks i n
      | none => kvDel f.looks i }
    match verdict with
    | none => { j with state := s1 }
    | some none => { j with state := s1.noteTransient chkPixel (u8 (lookByte pending) ++ u8 (lookByte now)) }
    | some (some (some code, cls)) =>
      let s2 := s1.onChk fun m => { m with cal := raiseDefect m.cal i code }
      { state := s2, found := j.found ++ [(i, cls)] }
    | some (some (none, cls)) =>
      let s2 := s1.onFlt fun f =>
        if f.cross.length < 1024 then { f with cross := setAdd f.cross i } else { f with crossOver := f.crossOver + 1 }
      { state := s2, found := j.found ++ [(i, cls)] }

/-- The reaction object of a class (Table 10-3). -/
def reactKey : Nat → Nat
  | 0 => K.reactDead | 1 => K.reactDead | 2 => K.reactDim | 3 => K.reactStuck | _ => K.reactCross

/-- EV080 once for a sense cycle with LASTING pixel judgements, EV081 for each STUCK_ON, and their reactions (R202, R203,
R206). Only CROSS judgements raise EV080 at severity 0. -/
def State.raisePixels (s : State) (found : List (Nat × Nat)) : State :=
  match found with
  | [] => s
  | (i, cls) :: _ =>
    let onlyCross := found.all fun e => e.2 == 4
    let s1 := s.raise
      { ev := 80, data := u32 found.length ++ u16 (i % 2048) ++ u16 (i / 2048) ++ u8 cls, lasting := true, check := chkPixel,
        fixedSev := if onlyCross then some 0 else none }
    let stuck := found.filter fun e => e.2 == 3
    let s2 := stuck.foldl (fun s e => s.raise
      { ev := 81, data := u16 (e.1 % 2048) ++ u16 (e.1 / 2048), lasting := true, check := chkPixel }) s1
    let s3 := s2.judgeStuck
    (s3.reactAll (found.map fun e =>
      ⟨s3.par (reactKey e.2), [zoneOfIdx e.1], if e.2 == 3 then s3.evSeverity 81 else s3.evSeverity 80⟩)).judgeHealth

/-- The defect map's check value is formed anew (R278). -/
def State.sealDefects (s : State) : State := s.onChk fun c => { c with defectSeal := defectCrc c.cal }

/-- The defect map or CROSS_LIST has changed: DEFECT_SEAL is formed anew, a scan of the map ends, and both records are to be written
(R202, R278, R279). -/
def State.mapsChanged (s : State) (found : List (Nat × Nat)) : State :=
  let map := found.any fun e => e.2 != 4
  let s1 := if map then (s.sealDefects.abortScan (s.scansCal 0x100000 0x40000) 1).writeDue 2 else s
  if found.any fun e => e.2 == 4 then s1.writeDue 7 else s1

/-- The records of a sense cycle enter the fault logic (R200 to R203). -/
def State.classifyRecords (s : State) (p : Nat) (records : List ProbeRec) : State :=
  let j := (records.zipIdx).foldl (fun j e => j.look p e.2 e.1) (PixelJudge.mk s [])
  ((j.state.mapsChanged j.found).raisePixels j.found).judgeStuckLooks.judgeHealth.judgeStormsSince s.flt.counts

end Sys2Proof.Machine
end

