-- ==== Sys2Proof/Machine/ThermOps.lean ====
section
/-! DEFINITION. The thermal supervisor (chapter 9): zone estimates (R183 to R185), plausibility (R186 to R189), regions and
derating (R190 to R193), shutdown and restart (R194 to R196), and the budget comparisons that follow (R59, R217). -/

namespace Sys2Proof.Machine

open Sys2Proof

/-! ### Budgets in force against those of a frame (R59, R217) -/

/-- Whether a budget lies more than 1 % below a reference. -/
def fellBelow (now was : Nat) : Bool := decide (100 * now < 99 * was)

/-- The region budgets in force (R160). -/
def State.regionBudgets (s : State) : List (Option Nat) := (upTo 17).map s.regionBudget

/-- Whether a region budget in force lies more than 1 % below the one a frame used; a budget where the frame had none counts. -/
def regionFell (now was : Option Nat) : Bool :=
  match now, was with
  | some b, some w => fellBelow b w
  | some _, none => true
  | none, _ => false

/-- Whether a budget in force lies more than 1 % below the budget a frame's limiter used (R59). -/
def State.budgetFell (s : State) (f : Frame) : Bool :=
  if f.regions.isEmpty then false
  else fellBelow s.budgetB f.budget || (s.regionBudgets.zip f.regions).any fun e => regionFell e.1 e.2

/-- The budgets a fallback render uses: min(B, FB_BUDGET_DW), PK, and the region budgets (R160, R216), a region without one as 65,535. -/
def State.renderBudgets (s : State) : List Nat :=
  min s.budgetB (s.par K.fbBudget) :: s.peakPk :: s.regionBudgets.map fun b => b.getD 65535

/-- Whether a budget changed by more than 1 % (R217). -/
def changedBy (now was : Nat) : Bool := decide (was < 100 * (max now was - min now was))

/-- After a change of a budget in force: the BUDGET trigger against the displayed frame (R59), or a render in FALLBACK (R217). -/
def State.judgeBudgets (s : State) : State :=
  if s.pwr.dev == .fallback then
    if (s.renderBudgets.zip s.flt.renderBudgets).any fun e => changedBy e.1 e.2 then s.fireRender else s
  else if s.mayCompose && s.budgetFell s.tim.disp then s.fire .budget else s

/-! ### Regions (R189 to R193) -/

/-- The factor F of R191. -/
def deratingFactor (t10 d10 e10 : Int) : Nat :=
  if t10 ≤ d10 then 32768
  else if e10 ≤ t10 then 16384
  else (32768 - Int.fdiv (16384 * (t10 - d10) + (e10 - d10) - 1) (e10 - d10)).toNat

/-- The zones of a region (R190). -/
def regionZones (r : Nat) : List Nat := (upTo 512).filter fun z => regionOf z == r

/-- The inputs of a region with their codes and values in force; a STALE estimate is not used (R185, R190). -/
def State.regionInputs (s : State) (r : Nat) : List (Nat × Int) :=
  if r = 16 then [(514, (s.diode 2).t10), (515, (s.diode 3).t10)]
  else
    (((regionZones r).filter fun z => (s.ztemp z).mode != .stale).map fun z => (z, (s.ztemp z).t10)) ++
      [(512 + regionDiode r, (s.diode (regionDiode r)).t10)]

/-- The hottest of a list of inputs. -/
def hottest (l : List (Nat × Int)) : Option (Nat × Int) :=
  l.foldl (fun a e => match a with
    | none => some e
    | some b => if b.2 < e.2 then some e else a) none

/-- The power of a region in the displayed frame, in 0.1 W rounded down, at least B div 16 (R192). -/
def State.regionPower (s : State) (r : Nat) : Nat :=
  let f := s.tim.disp
  let counted := (regionZones r).filter fun z => (s.zone z).closed || (s.zone z).closing
  let q := sumNat (counted.map fun z => (8 + f.iref.getD z 40) * (f.sums.getD z 0 + 2048))
  let nm1 := if f.n = 0 then 1 else f.n - 1
  let nn := if f.n = 0 then 1 else f.n
  let v := if s.par K.vledMode = 1 then s.par K.vledFixed else max s.sup.vset s.sup.target
  max (q * nm1 * v * f.limit / (8192 * nn * 32768 * 100000000)) (s.budgetB / 16)

/-- Region `r` evaluated anew (R189 to R192). -/
def State.evalRegion (s : State) (r : Nat) (g : Region) : Region :=
  match hottest (s.regionInputs r) with
  | none => g
  | some (code, t) =>
    let f0 := deratingFactor t (s.d10 (r != 16)) (s.e10 (r != 16))
    let f := g.caps.foldl (fun a c => min a c.2) f0
    let pref := if g.f = 32768 ∧ f < 32768 ∧ r ≠ 16 then s.regionPower r else if f = 32768 then 0 else g.pref
    { g with f := f, pref := pref, topInput := some code }

/-- The regions of the inputs just sampled are evaluated (R191). -/
def State.evalRegions (s : State) (codes : List Nat) : State :=
  let rs := (codes.map regionsOfInput).flatten
  s.onTherm fun t => { t with regions := t.regions.mapIdx fun r g => if rs.contains r then s.evalRegion r g else g }

/-- EV065 or its release after regions were evaluated (R193), by F_r as the module uses it, the thermal hold included (R196, log 29): the
raise, and the state with `derating` and the release. -/
def State.judgeDerating (s : State) : State × List Raise :=
  let low := (upTo 17).filter fun r => decide (s.regionF r < 32768)
  match low with
  | [] =>
    if s.therm.derating then ((s.onTherm fun t => { t with derating := false }).releaseFree 65, []) else (s, [])
  | r :: _ =>
    if s.therm.derating then (s, [])
    else (s.onTherm fun t => { t with derating := true },
      [{ ev := 65, data := u16 r ++ u16 (s.regionF r) }])

/-- Raises in ascending event number (R337). -/
def State.raiseSorted (s : State) (l : List Raise) : State :=
  ((upTo 128).map fun n => l.filter fun r => r.ev == n).flatten.foldl State.raise s

/-! ### Plausibility references (R186) -/

/-- A TRANSIENT plausibility result (R187). -/
def State.plausTransient (s : State) (first second : Int) : State :=
  (s.onTherm fun t => { t with plausTransients := inc32 t.plausTransients 1 }).noteTransient chkPlausible (s16 first ++ s16 second)

/-- The value lies within -50 to 175 degrees. -/
def inTempRange (t : Int) : Bool := decide (-500 ≤ t) && decide (t ≤ 1750)

/-- A signed list in ascending order. -/
def sortInts (l : List Int) : List Int := l.mergeSort (fun a b => decide (a ≤ b))

/-- The median of a sorted list, the mean of the middle two rounded half up for an even count (R186). -/
def medianInt (l : List Int) : Int :=
  let n := l.length
  if n % 2 = 1 then l.getD (n / 2) 0 else rhuInt (l.getD (n / 2 - 1) 0 + l.getD (n / 2) 0) 2

/-- The orthogonally adjacent zones of a zone. -/
def adjacentZones (z : Nat) : List Nat :=
  (if 32 ≤ z then [z - 32] else []) ++ (if z % 32 = 0 then [] else [z - 1]) ++ (if z % 32 = 31 then [] else [z + 1]) ++
  (if z < 480 then [z + 32] else [])

/-- The plausibility reference of a zone estimate (R186). -/
def State.zoneReference (s : State) (z : Nat) : Option Int :=
  let vs := ((adjacentZones z).filter fun a => (s.ztemp a).valid).map fun a => (s.ztemp a).t10
  if 2 ≤ vs.length then some (medianInt (sortInts vs)) else none

/-- The plausibility reference of diode `k` (R186). -/
def State.diodeReference (s : State) (k : Nat) : Option Int :=
  if k < 2 then
    let vs := ((upTo 512).filter fun z => diodeOf z == k && (s.ztemp z).mode == .measured).map fun z => (s.ztemp z).t10
    if 64 ≤ vs.length then some (rhuInt (vs.foldl (· + ·) 0) vs.length) else none
  else
    let partner := (s.diode (5 - k)).raw
    if inTempRange partner then some partner else none

/-- The reason an input is implausible (R186, R187): 0 plausible, RANGE (1), DISAGREE (2). -/
def implausible (t : Int) (ref : Option Int) : Nat :=
  if !inTempRange t then 1
  else match ref with
    | some r => if 150 < (t - r).natAbs then 2 else 0
    | none => 0

/-! ### Shutdown and restart (R194 to R196) -/

/-- The hottest valid zone estimate and its zone (Table 9-3); 0 and 0xFFFF where none is valid. -/
def State.zmax (s : State) : Int × Nat :=
  match hottest (((upTo 512).filter fun z => (s.ztemp z).valid).map fun z => (z, (s.ztemp z).t10)) with
  | some (z, t) => (t, z)
  | none => (0, 0xFFFF)

/-- The shutdown record (Table 9-3), with what RECONSTRUCTED was before EV066 (R343). -/
def State.shutdownRecord (s : State) (code : Nat) (controller : Bool) (hist : List Int) (recon : Bool) : List Byte :=
  let h := (hist ++ List.replicate (16 - hist.length) 0).take 16
  sealed (u32 0x54445348 ++ u16 s.therm.recSeq ++ u8 (b2n controller) ++ inputData code ++
    u16 (2 * b2n s.flt.hostPresent + b2n recon) ++ u64 s.now ++
    ((upTo 4).map fun k => s16 (s.diode k).t10).flatten ++ s16 s.zmax.1 ++ u16 s.zmax.2 ++ (h.reverse.map s16).flatten ++
    s16 (s.shut10 (!controller)) ++ u16 (((upTo 17).map s.regionF).foldl min 32768) ++ List.replicate 56 0)

/-- A LASTING shutdown judgement acts (R194). EV066 has been raised. -/
def State.shutDown (s : State) (code : Nat) (hist : List Int) (recon : Bool) : State :=
  let controller := decide (514 ≤ code)
  let rcd := s.shutdownRecord code controller hist recon
  let s1 := s.onTherm fun t => { t with
    shutCause := if controller then 2 else 1, shutKinds := setAdd t.shutKinds (if controller then 2 else 1), restart := 1,
    records := t.records ++ [rcd], recSeq := (t.recSeq + 1) % 65536, ctrlOff := controller || t.ctrlOff }
  let s2 := s1.enterDark .thermal .thermal
  if controller then s2.powerNone else s2

/-- EV066 (R194). -/
def shutRaise (code : Nat) : Raise :=
  { ev := 66, data := u8 (b2n (decide (514 ≤ code))) ++ inputData code, lasting := true, check := chkShutdown }

/-- A TRANSIENT shutdown result (R194). -/
def State.shutTransient (s : State) (first second : Int) : State :=
  (s.onTherm fun t => { t with shutTransients := inc32 t.shutTransients 1 }).noteTransient chkShutdown (s16 first ++ s16 second)

/-- Whether every valid input of a kind of shutdown (1 emitter, 2 controller) lies below its threshold less RESTART_HYST_C (R196). -/
def State.cooledKind (s : State) (kind : Nat) : Bool :=
  let emitter := kind != 2
  let lim := s.shut10 emitter - 10 * (s.par K.restartHyst : Int)
  if emitter then
    [0, 1].all (fun k => !(s.diode k).valid || decide ((s.diode k).t10 < lim)) &&
      s.therm.zones.all fun z => !z.valid || decide (z.t10 < lim)
  else [2, 3].all fun k => !(s.diode k).valid || decide ((s.diode k).t10 < lim)

/-- The restart condition of R196 for every shutdown since the module was last lit. -/
def State.cooled (s : State) : Bool := s.therm.shutKinds.all s.cooledKind

/-- The automatic exit from a thermal SAFE_DARK (R196, R209): no host, the restart condition met, light requested; with SUPERVISOR
recorded too, only LIMP_N and only once. Without a usable image the module stays dark (R214), and the restart condition waits for a
host. During a hand-over the cause is held (R388). -/
def State.tryThermalExit (s : State) : State :=
  let sup := s.pwr.dark.contains .supervisor
  let allowed := s.pwr.dark.contains .thermal && s.pwr.dark.all fun c => c == .thermal || c == .supervisor
  let wanted := if sup then s.pwr.limpLow && !s.flt.limpTried else s.pwr.limpLow || s.pwr.lightOn
  if s.pwr.dev == .safeDark && s.therm.restart == 2 && !s.flt.hostPresent && allowed && wanted then
    if s.rally.phase == .handover then s.onRally fun r => { r with heldFallback := enumAdd r.heldFallback .thermal }
    else if s.selectImage.isNone then s.engageFromDark .thermal else
    let s1 := s.onTherm fun t => { t with fbHold := true, restart := 3, ctrlOff := false }
    let s2 := s1.onFlt fun f => { f with limpTried := f.limpTried || sup }
    s2.engageFromDark .thermal
  else s

/-- The one attempt at the fallback beam from a SAFE_DARK with cause SUPERVISOR (R209): with no host present and LIMP_N asserted. During a
hand-over the cause is held (R388). -/
def State.limpAttempt (s : State) : State :=
  if s.pwr.dev == .safeDark && decide (s.pwr.dark = [.supervisor]) && !s.flt.hostPresent && s.pwr.limpLow && !s.flt.limpTried then
    if s.rally.phase == .handover then s.onRally fun r => { r with heldFallback := enumAdd r.heldFallback .limpN }
    else (s.onFlt fun f => { f with limpTried := true }).engageFromDark .limpN
  else s

/-- The restart condition is tested at a sample (R196). -/
def State.judgeRestart (s : State) : State :=
  if s.therm.restart == 1 && s.cooled then
    let s1 := s.onTherm fun t => { t with restart := 2 }
    (s1.raise { ev := 68, data := u8 (s.therm.shutCause - 1) }).tryThermalExit
  else s

/-! ### Zone estimates (R183 to R185) -/

/-- round_half_up(a / b) of R183, b positive or negative. -/
def rhuSigned (a b : Int) : Int := if 0 < b then Int.fdiv (a + Int.fdiv b 2) b else Int.fdiv (-a + Int.fdiv (-b) 2) (-b)

/-- The estimate of a zone from a forward voltage in 0.1 mV, exact (R183). -/
def State.estimate (s : State) (z : Nat) (vf01 : Nat) : Int :=
  let r := s.zoneRec z
  let dv := (vf01 : Int) - field r 6 2 -
    Int.fdiv (fieldI16 r 10 * ((s.sense.irefSensed.getD z 40 : Int) - field r 2 1) + 50) 100
  250 + rhuSigned (dv * 1000) (fieldI16 r 8)

/-- At a sample of diode `k` the values of the SUBSTITUTED zones of its half follow it (R185); while a zone's look is pending it holds its last
valid value (R187). A value that reaches its levels makes the zone near, and is a first look of a shutdown (R182, R194). -/
def State.substitute (s : State) (k : Nat) : State :=
  if s.lighting then
    s.onTherm fun t => { t with zones := t.zones.mapIdx fun i z =>
      if z.mode == .substituted && diodeOf i == k then
        let u : ZoneTemp := { z with t10 := if z.look.isSome then z.t10 else s.substituteValue i z }
        (u.stepNear (s.nearLevel true)).firstLook (s.shut10 true)
      else z }
  else s

/-- A new estimate of a zone is judged for plausibility (R185, R187): the state, the raises, and whether it is now in force. Two whole sweeps
without one are counted after the sweep that brings it. An INVALID zone too gives a look that waits its second result (R198). -/
def State.takeEstimate (s : State) (z : Nat) (v : Int) : State × List Raise × Bool :=
  let t : ZoneTemp := { s.ztemp z with hist := (heldT10 v :: (s.ztemp z).hist).take 17 }
  let thr := s.nearLevel true
  let reason := implausible v (s.zoneReference z)
  let new : ZoneTemp := { t with
    mode := .measured, reason := 0, t10 := v, lastT := v, tdLast := (s.diode (diodeOf z)).raw, sweepsLeft := 3, look := none,
    newSweep := false }
  let inForce := new.stepNear thr
  if t.mode == .invalid then
    if t.reason = 4 then (s, [], false)
    else if reason = 0 then
      let s1 := if t.newSweep then (s.putZtemp z inForce).validAgain z else s.putZtemp z { t with look := none }
      match t.look with
      | some first => (s1.plausTransient first v, [], t.newSweep)
      | none => (s1, [], t.newSweep)
    else if t.look.isSome then ((s.putZtemp z { t with look := none }).invalidateZone z reason, [invalidRaise z reason], false)
    else (s.putZtemp z t, [], false)
  else if reason = 0 then
    let s1 := s.putZtemp z inForce
    match t.look with
    | some first => (s1.plausTransient first v, [], true)
    | none => (s1, [], true)
  else match t.look with
    | none =>
      let held : ZoneTemp := { t with look := some (heldT10 v), sweepsLeft := 3 }
      (s.putZtemp z (held.stepNear thr), [], false)
    | some _ => ((s.putZtemp z { t with look := none }).invalidateZone z reason, [invalidRaise z reason], false)

/-- A zone's shutdown look after a new estimate in force (R194): the state, and whether the judgement is LASTING. -/
def State.zoneShutLook (s : State) (z : Nat) (v : Int) : State × Bool :=
  let t := s.ztemp z
  let hot := decide (s.shut10 true ≤ v)
  match t.shutLook, hot with
  | none, true => (s.putZtemp z { t with shutLook := some v }, false)
  | none, false => (s, false)
  | some _, true => (s.putZtemp z { t with shutLook := none }, true)
  | some first, false => ((s.putZtemp z { t with shutLook := none }).shutTransient first v, false)

/-- LASTING shutdown judgements act one after the other, each with the samples that came before (R194, R195). `recon` is what
RECONSTRUCTED was before their EV066. -/
def State.shutDownAll (s : State) (l : List Nat) (recon : Bool) : State :=
  l.foldl (fun s z => s.shutDown z ((s.ztemp z).hist.drop 1) recon) s

/-- New estimates of zones, each with its forward voltage, at one instant (R184): plausibility, near, regions, shutdown. Zones whose record
has CAL_VALID 0 form none (R183). `dead` are the EV067 that the instant brings beside. -/
def State.takeEstimates (s : State) (was : Nat) (l : List (Nat × Nat)) (dead : List Raise) : State :=
  let bad := s.calNewlyBad
  let s0 := s.invalidateCal bad
  let step := fun (a : State × List Raise × List Nat) (e : Nat × Nat) =>
    if !a.1.calValid e.1 then a
    else
      let v := a.1.estimate e.1 e.2
      let r := a.1.takeEstimate e.1 v
      if r.2.2 then
        let q := r.1.zoneShutLook e.1 v
        (q.1, a.2.1 ++ r.2.1, if q.2 then a.2.2 ++ [e.1] else a.2.2)
      else (r.1, a.2.1 ++ r.2.1, a.2.2)
  let a := l.foldl step (s0, [], [])
  let d := (a.1.evalRegions (bad ++ l.map Prod.fst)).judgeDerating
  let lost := bad.map fun z => invalidRaise z 4
  let s1 := d.1.raiseSorted (d.1.nearRaise was ++ d.2 ++ lost ++ dead ++ a.2.1 ++ a.2.2.map shutRaise)
  (s1.shutDownAll a.2.2 d.1.mgmt.reconstructed).judgeBudgets.judgeHealth

/-- At EV032 (R184, R185, R187): zones not near take a new estimate from a valid ZONE_VF_SWEEP, beside the near ones given, and zones
without a valid estimate for two whole sweeps become INVALID with reason NO_DATA. Any EV032 is a new sweep to an INVALID zone (DESIGN
CHOICE, log 29). -/
def State.sweepEstimates (s : State) (near : List (Nat × Nat)) : State :=
  let was := s.nearCount
  let s0 := s.onTherm fun t => { t with zones := t.zones.map fun z => if z.mode == .invalid then { z with newSweep := true } else z }
  let news := near ++ (upTo 512).filterMap fun z =>
    if (s0.ztemp z).near then none else (s0.sense.pubVfSweep.getD z none).map fun v => (z, v)
  let counted := (upTo 512).filter fun z =>
    ((s0.ztemp z).mode == .measured || (s0.ztemp z).mode == .seeded) && s0.zoneSensing z && !news.any fun e => e.1 == z
  let count := fun (i : Nat) (z : ZoneTemp) => if counted.contains i then { z with sweepsLeft := z.sweepsLeft - 1 } else z
  let s1 := s0.onTherm fun t => { t with zones := t.zones.mapIdx count }
  let dead := counted.filter fun z => (s1.ztemp z).sweepsLeft == 0
  ((dead.foldl (fun s z => s.invalidateZone z 3) s1).takeEstimates was news (dead.map fun z => invalidRaise z 3)).onTherm fun t => { t with
    zones := t.zones.map fun z => { z with sweepsLeft := min z.sweepsLeft 2 } }

/-! ### Diodes -/

/-- `s` with diode `k` replaced. -/
def State.putDiode (s : State) (k : Nat) (d : Diode) : State := s.onTherm fun t => { t with diodes := t.diodes.set k d }

/-- A diode sample is judged for plausibility (R187): the state with its value in force, and the raises. -/
def State.judgeDiode (s : State) (k : Nat) (v : Int) : State × List Raise :=
  let d := { s.diode k with raw := v }
  let reason := implausible v (s.diodeReference k)
  if d.valid then
    if reason = 0 then
      let s1 := s.putDiode k { d with t10 := v, lastValid := v, look := none }
      match d.look with
      | some first => (s1.plausTransient first v, [])
      | none => (s1, [])
    else match d.look with
      | none => (s.putDiode k { d with look := some v }, [])
      | some _ =>
        let floor := s.invalidFloor (512 + k) d.lastValid
        let s1 := (s.capRegions (512 + k)).putDiode k
          { d with valid := false, reason := reason, floor := floor, t10 := s.invalidValue (emitterDiode k) floor, look := none,
                   good := 0 }
        (s1, [invalidRaise (512 + k) reason])
  else if reason = 0 then
    if 99 ≤ d.good then
      ((s.putDiode k { d with valid := true, reason := 0, t10 := v, lastValid := v, good := 0 }).validAgain (512 + k), [])
    else (s.putDiode k { d with good := d.good + 1 }, [])
  else (s.putDiode k { d with good := 0 }, [])

/-- A diode's shutdown look (R194): the state, and whether the judgement is LASTING. While the diode is INVALID a pending one waits (R188,
R198). -/
def State.diodeShutLook (s : State) (k : Nat) : State × Bool :=
  let d := s.diode k
  let hot := decide (s.shut10 (emitterDiode k) ≤ d.t10)
  if !d.valid then (s, false)
  else match d.shutLook, hot with
  | none, true => (s.putDiode k { d with shutLook := some d.t10 }, false)
  | none, false => (s, false)
  | some _, true => (s.putDiode k { d with shutLook := none }, true)
  | some first, false => ((s.putDiode k { d with shutLook := none }).shutTransient first d.t10, false)

/-- Whether diode `k` is sampled: in STANDBY only TD2 and TD3, in PARK and in reset none (R181). -/
def State.sampled (s : State) (k : Nat) : Bool :=
  s.pwr.life == .running && s.pwr.dev != .park && (s.pwr.dev != .standby || decide (2 ≤ k))

/-- One sample of diode `k` (R181, R182, R186 to R196). -/
def State.sampleDiode (s : State) (k : Nat) (v : Int) : State :=
  let was := s.nearCount
  let hist := (s.diode k).hist
  let j := s.judgeDiode k v
  let d := j.1.diode k
  let n := nearStep (s.nearLevel (emitterDiode k)) d.t10 d.near d.below
  let s1 := j.1.putDiode k { d with near := n.1, below := n.2, hist := (v :: hist).take 16 }
  let s2 := (if k < 2 then s1.substitute k else s1).evalRegions [512 + k]
  let dr := s2.judgeDerating
  let q := dr.1.diodeShutLook k
  let s3 := q.1.raiseSorted (q.1.nearRaise was ++ dr.2 ++ j.2 ++ (if q.2 then [shutRaise (512 + k)] else []))
  let s4 := if q.2 then s3.shutDown (512 + k) hist q.1.mgmt.reconstructed else s3
  s4.judgeRestart.judgeBudgets.judgeHealth.judgeStormsSince s.flt.counts

end Sys2Proof.Machine
end

