-- ==== Sys2Proof/Machine/SenseOps.lean ====
section
/-! DEFINITION. Teasel (chapter 7): probe records and zone results (R132 to R141), the ADC reference check (R142), the road-sense
map (R144), and the beginning and end of a sense cycle (R130, R139, R145 to R149). -/

namespace Sys2Proof.Machine

open Sys2Proof

/-- The reading of member `k` of a family. -/
def readingAt {α : Type} (r : Readings α) (k : Nat) : α := (kvGet r.exc k).getD r.common

/-- A sense-ADC reading of zone `z` corrected, in LSB x 16 (R135). -/
def State.c16 (s : State) (z a : Nat) : Int :=
  let r := s.zoneRec z
  Int.fdiv (((a : Int) * 16 - fieldI16 r 14) * (field r 16 2 : Int) + 16384) 32768

/-- A forward-voltage reading in 0.1 mV (R135). -/
def vf01Of (v : Nat) : Nat := 20000 + 5 * v

/-! ### Probe records (R132 to R138) -/

/-- Whether a neighbour senses: inside the array, and GOOD or DIM in the defect map at t = 0 (R133). -/
def State.sensesAt (s : State) (x y : Int) : Bool :=
  decide (0 ≤ x ∧ x < 2048 ∧ 0 ≤ y ∧ y < 512) && decide (defectIn s.sense.calStart x.toNat y.toNat ≤ 1)

/-- The selected neighbours of a pair (R133). -/
def State.pairCount (s : State) (x y dx dy : Int) : Nat := b2n (s.sensesAt (x - dx) (y - dy)) + b2n (s.sensesAt (x + dx) (y + dy))

/-- A probe's record while it is formed: its zone, its signal and its expected signal. -/
structure ProbeForm where
  zone : Nat
  sig  : Nat
  exp  : Nat
  sH   : Int
  sV   : Int
  dark : Int
  rcd  : ProbeRec
  deriving DecidableEq, Repr

/-- The expected signal of R136. -/
def expectedSignal (nbRef n iref irefDef g : Nat) : Nat :=
  let den := 4 * (8 + irefDef) * (384 + g)
  (nbRef * n * (8 + iref) * 512 + den / 2) / den

/-- The probe ratio of R136. A ratio to an expected signal of 0 is not stated: a free value. -/
def probeRatio (n sig exp : Nat) : Nat :=
  if n = 0 then 0
  else if exp = 0 then (Config.ratioByZero (sig * 4096)).toNat
  else min ((sig * 4096 + exp / 2) / exp) 65535

/-- Whether zone `z`'s switch was closed from t = 12.0 us to t = 52.0 us of the sense cycle. No switch closes in a sense cycle (R131),
so it is closed still, or it opened at 52 us or later (R134). -/
def State.closedThroughProbe (s : State) (z : Nat) : Bool :=
  (s.zone z).closed || decide (s.sense.started_at + 52 ≤ (s.zone z).openedAt)

/-- Whether probes of zone `z` are pulsed: its switch closed while they would be, and its ADC not faulty (R134). -/
def State.zonePulsed (s : State) (z : Nat) : Bool := s.closedThroughProbe z && !s.sense.adcFaulty.contains z

/-- Probe `k` of the pattern in progress, all but VF_HIGH and VF_LOW (R133 to R138). -/
def State.formProbe (s : State) (k : Nat) (a : ProbeReading) : ProbeForm :=
  let i := probePixel s.sense.pattern k
  let x := i % 2048
  let y := i / 2048
  let z := zoneOf x y
  let nH := s.pairCount x y 1 0
  let nV := s.pairCount x y 0 1
  let n := nH + nV
  let dH := s.c16 z a.hd
  let dV := s.c16 z a.vd
  let sH := s.c16 z a.hl - 4 * dH
  let sV := s.c16 z a.vl - 4 * dV
  let sig := (max (sH + sV) 0).toNat
  let exp := expectedSignal (field (s.zoneRec z) 12 2) n (s.tim.disp.iref.getD z (s.iref z)) (s.irefDefault z)
    (gpOf s.chk.cal i)
  let skipped := !s.zonePulsed z
  let usable := !skipped && n != 0
  let ratio := if usable then probeRatio n sig exp else 0
  let lim := fun j => s.sense.screens.getD j 0
  let sat := a.hd == 4095 || a.vd == 4095 || a.hl == 4095 || a.vl == 4095
  let flags : List (Nat × Bool) := [
    (8, skipped), (9, n == 0), (10, sat), (11, a.v == 0 || a.v == 4095), (12, usable && decide (ratio < lim 0)),
    (13, usable && decide (lim 1 < ratio)),
    (14, usable && nH == 2 && nV == 2 && decide (0 < sH + sV) && decide ((lim 2 : Int) * (sH + sV) < 1000 * (sH - sV).natAbs)),
    (17, usable && decide ((lim 4 * exp : Nat) < 4000 * (dH + dV))), (18, s.sense.repeating), (19, s.sense.discard)]
  { zone := z, sig := sig, exp := exp, sH := sH, sV := sV, dark := dH + dV
    rcd := { vf := a.v, dark := (clampInt (Int.fdiv (dH + dV + 8) 16) 0 4095).toNat, ratio := ratio, nH := nH, nV := nV,
             flags := (flags.filter fun f => f.2).map (·.1), defect := defectIn s.sense.calStart x y } }

/-- A probe record's bit. -/
def ProbeRec.has (r : ProbeRec) (b : Nat) : Bool := r.flags.contains b

/-- The median of an ascending list (R138). -/
def medianNat (l : List Nat) : Nat :=
  let n := l.length
  if n % 2 = 1 then l.getD (n / 2) 0 else (l.getD (n / 2 - 1) 0 + l.getD (n / 2) 0 + 1) / 2

/-- The median forward-voltage reading of a zone's probes, none with fewer than 16 (R138). -/
def zoneMedian (l : List ProbeForm) (z : Nat) : Option Nat :=
  let vs := (l.filter fun p => p.zone == z && !p.rcd.has 8).map fun p => p.rcd.vf
  if vs.length < 16 then none else some (medianNat (vs.mergeSort (fun a b => decide (a ≤ b))))

/-- VF_HIGH and VF_LOW against the zone medians (R138). -/
def screenVf (screen : Nat) (medians : List (Option Nat)) (p : ProbeForm) : ProbeForm :=
  match medians.getD p.zone none with
  | none => p
  | some m =>
    if p.rcd.has 8 || p.rcd.has 9 then p
    else if m + 2 * screen < p.rcd.vf then { p with rcd := { p.rcd with flags := setAdd p.rcd.flags 15 } }
    else if p.rcd.vf + 2 * screen < m then { p with rcd := { p.rcd with flags := setAdd p.rcd.flags 16 } }
    else p

/-- The 16,384 records of the pattern in progress (R132 to R138). -/
def State.formProbes (s : State) (r : Readings ProbeReading) : List ProbeForm :=
  let l := (upTo 16384).map fun k => s.formProbe k (readingAt r k)
  let medians := (upTo 512).map (zoneMedian l)
  l.map (screenVf (s.sense.screens.getD 3 0) medians)

/-- Whether Table 7-5 expects flag `b` for a recorded state. -/
def flagExpected (defect : Nat) (onCross : Bool) (b : Nat) : Bool :=
  match defect with
  | 0 => onCross && (b == 13 || b == 14)
  | 1 => b == 12
  | 2 => b == 12 || b == 14
  | _ => true

/-- Whether a record is suspect (R139). -/
def suspectRec (onCross : Bool) (r : ProbeRec) : Bool :=
  r.flags.any fun b => decide (12 ≤ b) && decide (b ≤ 17) && !flagExpected r.defect onCross b

/-! ### Zone results (R140, R141) -/

/-- ZONE_LUM of a zone (R140). -/
def zoneLumOf (cross : List Nat) (pattern : Nat) (l : List (ProbeForm × Nat)) (z : Nat) : Option Nat :=
  let c := l.filter fun e => e.1.zone == z && e.1.rcd.defect == 0 && !cross.contains (probePixel pattern e.2) &&
    e.1.rcd.flags.all fun b => b == 18 || b == 19
  if c.length < 16 then none
  else
    let se := sumNat (c.map fun e => e.1.exp)
    let ss := sumNat (c.map fun e => e.1.sig)
    let q := (ss * 4096 + se / 2) / se
    some (if se = 0 ∨ 65535 < q then (Config.ratioByZero (ss * 4096)).toNat else q)

/-- The sum of vf01 and the count over a zone's qualifying probes (R140). -/
def zoneVfSum (l : List ProbeForm) (z : Nat) : Nat × Nat :=
  let c := l.filter fun p => p.zone == z && decide (p.rcd.defect ≤ 1) && !p.rcd.has 8 && !p.rcd.has 11 && !p.rcd.has 15 &&
    !p.rcd.has 16
  (sumNat (c.map fun p => vf01Of p.rcd.vf), c.length)

/-- A mean over qualifying probes, valid with at least `least` of them (R140, R141). -/
def meanVf (least : Nat) (e : Nat × Nat) : Option Nat := if e.2 < least ∨ e.2 = 0 then none else some ((e.1 + e.2 / 2) / e.2)

/-- The probe records and zone results of the pattern are formed (R137 to R140), a suspect asks for a repeat (R139), and the
records enter the fault logic (R200). -/
def State.probeDone (s : State) (r : Readings ProbeReading) : State :=
  let forms := s.formProbes r
  let records := forms.map fun p => p.rcd
  let sums := (upTo 512).map (zoneVfSum forms)
  let lum := (upTo 512).map (zoneLumOf s.flt.cross s.sense.pattern forms.zipIdx)
  let vf := sums.zipIdx.map fun e => meanVf (if (s.ztemp e.2).near then 4 else 16) e.1
  let suspect := records.zipIdx.any fun e => suspectRec (s.flt.cross.contains (probePixel s.sense.pattern e.2)) e.1
  let rep := suspect && !s.sense.repeating && !s.sense.discard
  let s1 := s.onSense fun e => { e with
    cells := .road, records := records, recSeq := e.seq, recTstamp := e.started_at, recPattern := e.pattern,
    recFlags := b2n e.repeating + 2 * b2n e.discard, lum := lum, vf := vf,
    irefSensed := (upTo 512).map (fun z => s.tim.disp.iref.getD z (s.iref z)), repeatNext := rep,
    sweepVf := if e.discard then e.sweepVf else kvSet e.sweepVf e.pattern sums,
    sweepEnds := e.pattern == 63 && !e.discard && !rep }
  if s.sense.discard then s1 else s1.classifyRecords s.sense.pattern records

/-! ### The reference check and the delivery of results (R142, R144) -/

/-- Whether a reference conversion passes (R142). -/
def adcPasses (v : Nat) : Bool := decide (2024 ≤ v) && decide (v ≤ 2072)

/-- The reference check of zone `z` (R142), but for its reaction. -/
def State.checkAdc (s : State) (z v : Nat) : State :=
  if s.sense.adcFaulty.contains z then s.onSense fun e => { e with adcBad := setAdd e.adcBad z }
  else match adcPasses v, kvGet s.sense.adcLook z with
  | true, none => s
  | true, some first =>
    (s.onSense fun e => { e with adcLook := kvDel e.adcLook z }).noteTransient chkSenseAdc (u16 first ++ u16 v)
  | false, none => s.onSense fun e => { e with adcLook := kvSet e.adcLook z v, adcBad := setAdd e.adcBad z }
  | false, some _ =>
    let s1 := s.onSense fun e => { e with
      adcLook := kvDel e.adcLook z, adcFaulty := setAdd e.adcFaulty z, adcBad := setAdd e.adcBad z }
    s1.raise { ev := 37, data := u16 z, lasting := true, check := chkSenseAdc }

/-- The bin number 256 x w + u that holds a pixel. -/
def binOf (x y : Nat) : Nat := 256 * (y / 8) + x / 8

/-- The bins that hold a pixel or one orthogonally or diagonally adjacent to it (R144). -/
def binsNear (i : Nat) : List Nat :=
  let x := i % 2048
  let y := i / 2048
  ([y - 1, y, min (y + 1) 511].map fun b => [x - 1, x, min (x + 1) 2047].map fun a => binOf a b).flatten

/-- The stored word of bin `j` (R144, Table 7-7). A bin that is NOCELLS or STUCK sets no SAT (log 29). -/
def State.mapWord (s : State) (bad stuck : List Nat) (j b : Nat) : Nat :=
  let z := zoneOf (8 * (j % 256)) (8 * (j / 256))
  let n := 64 - (bad.filter fun i => binOf (i % 2048) (i / 2048) == j).length
  let isStuck := stuck.contains j
  let none' := n == 0 || s.sense.adcBad.contains z
  let m0 := max (s.c16 z b) 0
  let m16 := if n < 64 ∧ 0 < n then Int.fdiv (m0 * 64 + (n / 2 : Nat)) n else m0
  let sat := b == 4095 && !none' && !isStuck
  let m := if none' || isStuck then 0 else if sat then 4095 else (min (Int.fdiv (m16 + 8) 16) 4095).toNat
  m + 4096 * b2n none' + 8192 * b2n (decide (0 < n) && decide (n < 64)) + 16384 * b2n isStuck + 32768 * b2n sat

/-- The map of the sense cycle (R144). -/
def State.formMap (s : State) (bins : Readings Nat) : List Nat :=
  let d := s.defects
  let bad := (d.filter fun e => decide (2 ≤ e.2)).map (·.1)
  let stuck := (((d.filter fun e => e.2 == 3).map (·.1)).map binsNear).flatten
  (upTo 16384).map fun j => s.mapWord bad stuck j (readingAt bins j)

/-- A zone result after the reference check: invalid for a zone whose check failed (R140, R142). -/
def withheld (bad : List Nat) (l : List (Option Nat)) : List (Option Nat) :=
  l.mapIdx fun z v => if bad.contains z then none else v

/-- The looks of a sweep without those of a pattern in zones whose reference check failed (R141, R142). -/
def dropLooks (bad : List Nat) (p : Nat) (l : List (Nat × List (Nat × Nat))) : List (Nat × List (Nat × Nat)) :=
  l.map fun e => if e.1 = p then (e.1, e.2.mapIdx fun z v => if bad.contains z then (0, 0) else v) else e

/-- The results are delivered (R140, R142, R144), and ADCs newly faulty take their reactions. A discarded cycle delivers only a valid ZONE_VF
of near zones (R148). -/
def State.resultsDelivered (s : State) (adc : Readings Nat) (bins : Readings Nat) : State :=
  let s1 := (upTo 512).foldl (fun s z => s.checkAdc z (readingAt adc z)) (s.onSense fun e => { e with adcBad := [] })
  let bad := s1.sense.adcBad
  let lum := withheld bad s1.sense.lum
  let vf := withheld bad s1.sense.vf
  let disc := s1.sense.discard
  let map := if disc then none else some (s1.formMap bins)
  let pub := fun (z : Nat) (old : Option Nat) =>
    let v := vf.getD z none
    if disc then (if (s1.ztemp z).near && v.isSome then v else old) else v
  let s2 := s1.onSense fun e => { e with
    cells := .dark, lum := lum, vf := vf, mapNew := map,
    sweepVf := if disc then e.sweepVf else dropLooks bad e.pattern e.sweepVf
    pubLum := if disc then e.pubLum else lum
    pubVf := e.pubVf.mapIdx pub }
  let count := fun (i : Nat) (z : Zone) => { z with
    lumValid := if !disc && (lum.getD i none).isSome then 0 else min 8 (z.lumValid + 1)
    vfFresh := if disc then z.vfFresh || (s1.ztemp i).near && (vf.getD i none).isSome else true }
  let faulty := s1.sense.adcFaulty.filter fun z => !s.sense.adcFaulty.contains z
  ((s2.onZones count).reactAll (faulty.map fun z => ⟨s1.par K.reactSenseAdc, [z], s1.evSeverity 37⟩)).judgeHealth.judgeStormsSince s.flt.counts

/-! ### The beginning and the end of a sense cycle -/

/-- A sense cycle begins on the boundary (R130, R131, R139, R148). -/
def State.beginSense (s : State) : State :=
  let e := s.sense
  let disc := s.senseState == 1
  let start : Nat × Bool × Option Nat × Nat :=
    match disc, e.resumeAt, e.repeatNext with
    | false, some p, _ => (p, false, none, (p + 1) % 64)
    | true, r, true => (e.pattern, true, some (r.getD e.pattern), e.next)
    | true, r, false => (e.next, false, some (r.getD e.next), (e.next + 1) % 64)
    | false, none, true => (e.pattern, true, none, e.next)
    | false, none, false => (e.next, false, none, (e.next + 1) % 64)
  s.onSense fun e => { e with
    since := 0, inCycle := true, cells := .probe, calStart := s.chk.cal, discard := disc, pattern := start.1, repeating := start.2.1,
    resumeAt := start.2.2.1, next := start.2.2.2, repeatNext := false, sweepEnds := false, lum := [], vf := [], mapNew := none,
    adcBad := [], seq := inc32 e.seq 1, started_at := s.now,
    repeats := if start.2.1 then inc32 e.repeats 1 else e.repeats,
    sweepRepeats := if start.2.1 then e.sweepRepeats + 1 else e.sweepRepeats,
    screens := [s.par K.lumLow, s.par K.lumHigh, s.par K.imbalScreen, s.par K.vfScreen, s.par K.darkScreen] }

/-- The sweep's mean forward voltage of a zone (R141). -/
def sweepMean (l : List (Nat × List (Nat × Nat))) (z : Nat) : Option Nat :=
  meanVf 1024 (l.foldl (fun a e => let v := e.2.getD z (0, 0); (a.1 + v.1, a.2 + v.2)) (0, 0))

/-- Whether sensing is unavailable for a zone alone: its ADC is faulty or its switch open (R150). -/
def State.zoneAway (s : State) (z : Nat) : Bool := s.sense.adcFaulty.contains z || !(s.zone z).closed

/-- A sweep completes: EV032, ZONE_VF_SWEEP, ACQUIRE counts and the hand-overs' next occasion (R139, R141, R171, R174). -/
def State.endSweep (s : State) : State :=
  let reps := s.sense.sweepRepeats
  let s1 := s.onSense fun e => { e with
    sweeps := inc32 e.sweeps 1, sweepRepeats := 0, sweepVf := [], sweepEnds := false,
    pubVfSweep := (upTo 512).map fun z => if s.zoneAway z then none else sweepMean e.sweepVf z }
  let s2 := s1.onZones fun _ z => { z with
    sweepsLeft := z.sweepsLeft - 1, mode := if z.mode = 0 ∧ z.sweepsLeft ≤ 1 then 1 else z.mode
    refused := if s.par K.gainSource = 2 then false else z.refused }
  s2.raise { ev := 32, data := u32 s1.sense.sweeps ++ u32 reps }

/-- The DOMAIN of the published map, 32,784 bytes (R145). -/
def State.mapDomain (s : State) : List Byte :=
  let e := s.sense
  u32 e.mapShown ++ u64 e.mapTstamp ++ u16 e.mapN ++ u8 e.mapFlags ++ u8 0 ++
    (((upTo 16384).map fun j => u16 (e.map.getD j 0)).flatten)

/-- The map is published: EV033, and MAP packets under MAP_STREAM_DIV (R145, R261). -/
def State.publishMap (s : State) (m : List Nat) : State :=
  let flags := b2n s.sense.mapFirst + 2 * b2n (m.any fun w => bitOf w 15) + 4 * b2n (m.any fun w => bitOf w 12)
  let s1 := s.onSense fun e => { e with
    map := m, mapSeq := inc32 e.mapSeq 1, mapShown := inc32 e.mapSeq 1, mapTstamp := s.now, mapN := e.n, mapFlags := flags, mapFirst := false,
    mapNew := none }
  let params := [K.reflexOn, K.reflexOff, K.reflexRoi, K.reflexMinBins, K.reflexDilate, K.reflexHold, K.reflexMaxBoxes].map s.par
  let s2 := (s1.onGlare fun g => { g with mapWaiting := s.flag K.reflexEnable, mapParams := params }).raise
    { ev := 33, data := u32 s1.sense.mapSeq }
  let k := s2.par K.mapStreamDiv
  if 0 < k ∧ s1.sense.mapSeq % k = 0 then s2.deliver 0x20 0 0 0 s1.mapDomain else s2

/-- The sense cycle ends at the boundary: EV032, and EV033 with the published map (R131, R139, R145). -/
def State.endSense (s : State) : State :=
  if !s.sense.inCycle then s
  else
    let s1 := (s.onSense fun e => { e with inCycle := false, cells := .emit }).onSup fun u => { u with
      gainDue := u.gainDue || !s.sense.discard }
    let s2 := if s.sense.sweepEnds && !s.sense.discard then s1.endSweep else s1
    match s2.sense.mapNew with
    | some m => if s.sense.discard then s2.onSense fun e => { e with mapNew := none } else s2.publishMap m
    | none => s2

/-- The zone estimates that the end of a sense cycle brings: near zones with a valid ZONE_VF, and at EV032 the others (R184). `was` is
the state in which the cycle ended. -/
def State.endEstimates (s was : State) : State :=
  if !was.sense.inCycle then s
  else
    let near := (upTo 512).filterMap fun z => if (s.ztemp z).near then (was.sense.vf.getD z none).map fun v => (z, v) else none
    if was.sense.sweepEnds && !was.sense.discard then s.sweepEstimates near
    else if near.isEmpty then s else s.takeEstimates s.nearCount near []

/-- At a boundary the count of cycles since the previous sense cycle advances (R130). -/
def State.countSense (s : State) : State :=
  if s.sense.started then s.onSense fun e => { e with since := e.since + 1 } else s

/-- A sense cycle begins at the first boundary at which N cycles have passed (R130). -/
def State.maybeBeginSense (s : State) : State :=
  if s.sense.started && s.lighting && decide (0 < s.sense.n) && decide (s.sense.n ≤ s.sense.since) && !s.sup.offDue &&
      !s.sense.inCycle then s.beginSense
  else s

/-- The cadence that a frame's snapshot took comes into force; a value staged after it stays staged (R147). A stop with no later
write names no pattern to resume from (R148, R149). -/
def Sense.takeCadence (e : Sense) (taken : Option Nat) : Sense :=
  match taken with
  | none => e
  | some v =>
    let left := if e.stagedN = some v then none else e.stagedN
    { e with
      n := v, stagedN := left, resumeAt := if v = 0 ∧ left.isNone then none else e.resumeAt,
      mapFirst := e.mapFirst || v != e.n, started := e.started && v != 0 }

/-- Sensing starts at a swap: at the pattern R148 names with the sweep in progress continuing, else at pattern 0 with a new sweep
(R130, R149). The first map after it has FLAGS bit 0 set, the very first since reset too (DESIGN CHOICE, log 29). -/
def Sense.start (e : Sense) : Sense :=
  let resumes := e.resumeAt.isSome
  { e with
    started := true, since := 0, next := e.resumeAt.getD 0, resumeAt := none, repeating := false, repeatNext := false,
    sweepRepeats := if resumes then e.sweepRepeats else 0, sweepVf := if resumes then e.sweepVf else [], mapFirst := true }

/-- At a swap, the frame's cadence comes into force and sensing starts or stops (R130, R147 to R149). -/
def State.swapSense (s : State) : State :=
  let old := s.sense.n
  let s1 := s.onSense fun e => e.takeCadence s.tim.disp.takenN
  let begins := s1.lighting && s1.sense.n != 0 && (!s.sense.started || old == 0)
  (if begins then s1.onSense Sense.start else s1).judgeSensing

/-- A write of SENSE_INTERVAL_CYC is staged (R147, R148). -/
def State.stageCadence (s : State) (v : Nat) : State :=
  let cut := v == 0 && s.sense.inCycle && s.lighting
  let s1 := s.onSense fun e => { e with
    stagedN := some v,
    discard := e.discard || cut, repeatNext := if cut then false else e.repeatNext
    sweepEnds := if cut then false else e.sweepEnds
    resumeAt := if cut && !e.discard && e.resumeAt.isNone then some e.pattern else e.resumeAt
    recFlags := if cut && !e.lum.isEmpty then 2 + e.recFlags % 2 else e.recFlags
    records := if cut && !e.lum.isEmpty then e.records.map fun r => { r with flags := setAdd r.flags 19 } else e.records }
  s1.judgeSensing.judgeHealth

end Sys2Proof.Machine
end

