-- ==== Sys2Proof/Machine/LoopOps.lean ====
section
/-! DEFINITION. The limiter (R160 to R165, R216), the headroom loop (R157, R158), injection and capture (R178, R180), and the zone
loops of a gain period (R167 to R177). -/

namespace Sys2Proof.Machine

open Sys2Proof

/-! ### The limiter (R160 to R164) -/

/-- Whether the limiter counts a zone: its switch closed or scheduled to close (R162). -/
def Zone.counted (z : Zone) : Bool := z.closed || z.closing

/-- The zones the limiter counts. -/
def State.countedZones (s : State) : List Nat := (upTo 512).filter fun z => (s.zone z).counted

/-- q of R162 over a set of zones. -/
def Frame.limiterQ (f : Frame) (k : List Nat) : Nat :=
  sumNat (k.map fun z => (8 + f.iref.getD z 0) * (f.sums.getD z 0 + 2048))

/-- N - 1 and N of R162, both 1 with a cadence of 0. -/
def Frame.cadencePair (f : Frame) : Nat × Nat := if f.n = 0 then (1, 1) else (f.n - 1, f.n)

/-- lavg of R162 for a sum q and a budget in 0.1 W. -/
def lavgOf (q nm1 nn vMv bDw : Nat) : Nat :=
  if q * nm1 * vMv = 0 then 32768 else min 32768 (32768 * bDw * 100000000 * 8192 * nn / (q * nm1 * vMv))

/-- V of R162 in mV. -/
def State.limiterV (s : State) : Nat := if s.par K.vledMode = 1 then s.par K.vledFixed else max s.sup.vset s.sup.target

/-- The bound of a zone's conduction in a local window for a candidate L (R163). -/
def Frame.windowBound (f : Frame) (l z j : Nat) : Nat :=
  let occ := f.occ.getD z []
  let t := (l * f.sums.getD z 0 + 32767) / 32768
  if j = 0 then min t (256 * occ.getD 0 0)
  else if l = 0 then 0
  else
    let idx := j * 32768 / l
    if 16 ≤ idx then 0 else min t (256 * occ.getD idx 0)

/-- fits(L) of R163: zones with their old slots, the peak limit in mA, and a candidate L. -/
def Frame.fits (f : Frame) (k : List (Nat × Nat)) (pk l : Nat) : Bool :=
  (upTo 16).all fun w =>
    decide (sumNat (k.map fun e =>
      (8 + f.iref.getD e.1 0) *
        (max (f.windowBound l e.1 ((w + 16 - f.slots.getD e.1 0 % 16) % 16)) (f.windowBound l e.1 ((w + 16 - e.2 % 16) % 16)) +
          (f.occ.getD e.1 []).getD 0 0)) ≤ pk * 512000)

/-- The search of R163 between a value that fits and one that does not. -/
def Frame.searchFit (f : Frame) (k : List (Nat × Nat)) (pk : Nat) : Nat → Nat → Nat → Nat
  | 0, lo, _ => lo
  | fuel + 1, lo, hi =>
    if hi - lo ≤ 1 then lo
    else
      let mid := (lo + hi) / 2
      if f.fits k pk mid then f.searchFit k pk fuel mid hi else f.searchFit k pk fuel lo mid

/-- A frame with the limiter run over its sums, against a module budget in 0.1 W and the region budgets (R160 to R164). -/
def State.limitFrame (s : State) (f : Frame) (b : Nat) : Frame :=
  let k := s.countedZones
  let q := f.limiterQ k
  let (nm1, nn) := f.cadencePair
  let v := s.limiterV
  let regions := s.regionBudgets
  let module' := lavgOf q nm1 nn v b
  let byRegion := (regions.zipIdx).foldl (fun a e => match e.1 with
    | some br => min a (lavgOf (f.limiterQ (if e.2 = 16 then k else k.filter fun z => regionOf z == e.2)) nm1 nn v br)
    | none => a) 32768
  let lavg := min module' byRegion
  let ks := k.map fun z => (z, (s.zone z).slot)
  let pk := s.peakPk
  let l := if f.fits ks pk lavg then lavg else f.searchFit ks pk 16 0 lavg
  let rule := if l < lavg then 3 else if l = 32768 then 0 else if byRegion < module' then 2 else 1
  { f with
    limit := l, rule := rule, budget := b, peak := pk, regions := regions,
    predictedMw := q * nm1 * v / (8192 * nn * 1000000), iAvgUa := q * nm1 * l / (8192 * nn * 32768)
    phasesNeeded := (q * nm1 * l + (8192 * nn * 32768 * 3250000 - 1)) / (8192 * nn * 32768 * 3250000) }

/-! ### The headroom loop (R157, R158) -/

/-- IREF_next of a zone: the higher of the displayed and the work frame's (R157). -/
def State.irefNext (s : State) (z : Nat) : Nat :=
  let d := s.tim.disp.iref.getD z (s.iref z)
  match s.tim.work with
  | some f => max d (f.iref.getD z d)
  | none => d

/-- The predicted forward voltage of a zone, 0.1 mV (R157): from its ZONE_VF where one has been delivered valid since its sensing became
available. -/
def State.predictedVf (s : State) (z : Nat) : Int :=
  let r := s.zoneRec z
  let next : Int := s.irefNext z
  match s.zoneSensing z && (s.zone z).vfFresh, s.sense.pubVf.getD z none with
  | true, some vf => (vf : Int) + Int.fdiv (fieldI16 r 10 * (next - (s.sense.irefSensed.getD z 40 : Int)) + 50) 100
  | _, _ =>
    (field r 6 2 : Int) + Int.fdiv (fieldI16 r 10 * (next - (s.irefDefault z : Int)) + 50) 100 +
      Int.fdiv (fieldI16 r 8 * ((s.ztemp z).t10 - 250) + 500) 1000

/-- The zones that the headroom loop counts (R157). -/
def State.headroomZones (s : State) : List Nat :=
  (upTo 512).filter fun z => (s.zone z).counted &&
    (s.tim.disp.sums.getD z 0 != 0 || match s.tim.work with
      | some f => f.sums.getD z 0 != 0
      | none => false)

/-- The headroom target before and after its clamp, mV (R157). -/
def headroomTarget (vmax : Nat) (headroom : Nat) : Nat × Nat :=
  let t := (vmax + 9) / 10 + headroom
  (t, clampNat (5 * ((t + 4) / 5)) 2900 4200)

/-- The setpoint after one pass of the loop without injection (R155, R157, R158). -/
def State.nextVset (s : State) (target : Nat) : Nat :=
  let goal := if s.par K.vledMode = 1 then s.par K.vledFixed else target
  if !s.sup.vledOn then 0
  else if s.sup.softStart then goal * min (s.now - s.sup.softAt) 2000 / 2000
  else if s.par K.vledMode = 1 then goal
  else clampNat goal (s.sup.vbase - s.par K.slewDn) (s.sup.vbase + s.par K.slewUp)

/-- The injected signal at VLED in mV (R178). -/
def State.injVled (s : State) : Int := if s.sup.injecting && s.par K.injTarget == 1 then s.sup.injU else 0

/-- One pass of the headroom loop at a boundary, with EV054 (R157, R158, R178). -/
def State.headroomLoop (s : State) : State :=
  let zs := (s.headroomZones).map fun z => (z, s.predictedVf z)
  let vmax := (zs.foldl (fun (a : Int) (e : Nat × Int) => max a e.2) 0).toNat
  let (raw, target) := headroomTarget vmax (s.par K.headroom)
  let top := if s.par K.vledMode = 1 then s.par K.vledFixed else 4200
  let short := s.sup.vledOn && decide (top < 5 * ((raw + 4) / 5))
  let lacking := (zs.filter fun e => decide (((10 * top : Nat) : Int) < e.2 + ((10 * s.par K.headroom : Nat) : Int))).map (·.1)
  let base := s.nextVset target
  let vset := if s.sup.vledOn && !s.sup.softStart && s.injVled != 0 then
      (clampInt ((base : Int) + s.injVled) 2900 4200).toNat else base
  let fire := short && decide (64 ≤ s.sup.hsAbsent)
  let s1 := s.onSup fun u => { u with
    target := target, vbasePrev := u.vbase, vsetPrev := u.vset, vbase := base, vset := vset,
    hsZones := if short then lacking else [], hsAbsent := if short then 0 else min 64 (u.hsAbsent + 1) }
  if fire then s1.raise { ev := 54, data := u16 lacking.length } else s1

/-! ### Injection and capture (R178, R180) -/

/-- The next state of the PRBS-9 register, x^9 + x^5 + 1 (R178). -/
def prbsNext (r : Nat) : Nat := r * 2 % 512 + (r / 256 + r / 16) % 2

/-- The injected signal of sample period number `count` and the PRBS register after it (R178). SQUARE begins with +INJ_AMPL (DESIGN CHOICE,
log 43). -/
def State.signalAt (s : State) (count : Nat) : Int × Nat :=
  let a : Int := s.par K.injAmpl
  let half := max (s.par K.injHalf) 1
  match s.par K.injSignal with
  | 0 => (a, s.sup.prbs)
  | 1 => (if count / half % 2 = 0 then a else -a, s.sup.prbs)
  | _ =>
    let r := if 0 < count ∧ count % half = 0 then prbsNext s.sup.prbs else s.sup.prbs
    (if r / 256 % 2 = 1 then a else -a, r)

/-- The signal of a sample period is applied; an armed injection starts, and with it the capture (R178, R180). -/
def State.injectSample (s : State) : State :=
  let s1 := if s.sup.injArmed then s.onSup fun u => { u with
      injArmed := false, injecting := true, injCount := 0, prbs := 511, capRunning := true, capState := 1, capDecim := 0,
      capTaken := 0, capSamples := [] }
    else s
  if s1.sup.injecting then
    let (v, r) := s1.signalAt s1.sup.injCount
    s1.onSup fun u => { u with injU := v, prbs := r, injCount := u.injCount + 1 }
  else s1

/-- ZONE_LUM of a zone as published, 0xFFFF where invalid (R140). -/
def State.lumCode (s : State) (z : Nat) : Nat := (s.sense.pubLum.getD z none).getD 0xFFFF

/-- The 8 bytes of a capture sample (Table 8-5); `gz` is the Gz delivered in the sample period that ends. -/
def State.captureBytes (s : State) (gz : Nat) : List Byte :=
  let u := s.sup
  if s.par K.injTarget = 2 then
    let z := s.par K.injZone
    s16 u.injU ++ u16 gz ++ u16 (s.zone z).rho ++ u16 (s.lumCode z)
  else
    s16 u.injU ++ u16 u.vset ++ u16 (if u.vledCnt = 0 then u.vled else rhu u.vledSum u.vledCnt) ++
      u16 (if u.vledCnt = 0 then u.vled else u.vledMin)

/-- A capture that has its 4,096 samples replaces CAPTURE (R180), and is sent while TUNE_STREAM is 1 (R261). -/
def State.finishCapture (s : State) : State :=
  if s.sup.capRunning && decide (4096 ≤ s.sup.capTaken) then
    let seq := inc32 s.sup.capSeq 1
    let rcd := s.captureRecord seq false
    let s1 := s.onSup fun u => { u with capRunning := false, capState := 2, capSeq := seq, capture := rcd }
    if s1.par K.tuneStream = 1 then s1.deliver 0x50 0 0 0 rcd else s1
  else s

/-- A capture sample of the sample period that ends is recorded when one is due (R180). -/
def State.captureSample (s : State) (gz : Nat) : State :=
  if !s.sup.capRunning then s
  else if s.sup.capTaken = 0 ∨ s.par K.capDecim ≤ s.sup.capDecim + 1 then
    let b := s.captureBytes gz
    (s.onSup fun u => { u with
      capSamples := b :: u.capSamples, capTaken := u.capTaken + 1, capDecim := 0,
      capStart := if u.capTaken = 0 then s.now else u.capStart }).finishCapture
  else s.onSup fun u => { u with capDecim := u.capDecim + 1 }

/-- The samples of VLED of the sample period that ends are left behind. -/
def State.clearVledSums (s : State) : State := s.onSup fun u => { u with vledSum := 0, vledCnt := 0, vledMin := 65535 }

/-- At a boundary the count of cycles of the zones without sensing advances, from the boundary at which it became unavailable; a gain
period ends after each 64 (R167), and ZONE_VF is of no use (R157). -/
def State.countAway (s : State) : State :=
  s.onZones fun i z =>
    if s.zoneSensing i then { z with away := none, awayDue := false }
    else match z.away with
      | none => { z with away := some 0, awayDue := false, vfFresh := false }
      | some k => if k < 63 then { z with away := some (k + 1), vfFresh := false } else { z with away := some 0, awayDue := true, vfFresh := false }

/-- Whether a zone's gain period is due (R167): with sensing, once per sense cycle; without it, every 64 PWM cycles counted from the
boundary at which it became unavailable. -/
def State.gainDueFor (s : State) (z : Nat) : Bool := if s.zoneSensing z then s.sup.gainDue else (s.zone z).awayDue

/-- An injection at a zone that stopped as VLED went off leaves its Gz at the zone's next gain period (R167, R179): no zone loop runs then. -/
def State.dropInjected (s : State) : State :=
  match s.sup.injAt with
  | some (z, _) => if !s.sup.vledOn && !s.sup.injecting && s.gainDueFor z then s.onSup fun u => { u with injAt := none } else s
  | none => s

/-- The control engine's work at a boundary: the capture sample of VLED in the cycle that ends, then injection and the headroom loop
for the cycle that begins (R157, R178, R180). A zone's
sensing is judged here (log 29). -/
def State.boundaryEngine (s : State) : State :=
  let s1 := s.loseSensing.countAway.dropInjected
  if s1.par K.injTarget = 2 then s1.headroomLoop.clearVledSums
  else (s1.captureSample 0).injectSample.headroomLoop.clearVledSums

/-! ### Zone loops (R167 to R177) -/

/-- GZ_CAL of a zone (R169). -/
def State.gzCal (s : State) (z : Nat) : Nat :=
  (clampInt (Int.fdiv ((s.gzFactory z : Int) * (10000000 + ofRaw 16 (s.par K.calTcomp) * ((s.ztemp z).t10 - 250)) + 5000000) 10000000)
    8192 24576).toNat

/-- RHO of a zone for a ZONE_LUM (R168, R178: the Gz delivered). -/
def State.rhoOf (s : State) (z lum : Nat) : Nat :=
  let d := 4096 * s.gzFactory z
  (lum * s.gzDelivered z * 1000 + d / 2) / d

/-- |a - b|. -/
def absDiff (a b : Nat) : Nat := max a b - min a b

/-- The disagreement toward CAL (R171). -/
def disagreeCal (cal gz : Nat) : Nat := (absDiff cal gz * 1000 + gz / 2) / gz

/-- Gz moved toward a target by at most 16 (R169). -/
def moveToward (gz target : Nat) : Nat := if gz < target then min (gz + 16) target else max (gz - 16) target

/-- At half rate a zone's loop acts on every second gain period of its own (R177). -/
def State.gainSkips (s : State) (z : Nat) : Bool := s.sup.halfRate && (s.zone z).skipNext

/-- What a gain period does to one zone: its next state, RHO at the start and at the end of a following-error run that ended
TRANSIENT, and the disagreement of a refused or of a forced hand-over. -/
structure ZoneGain where
  zone   : Zone
  passed : Option (Nat × Nat)
  reject : Option Nat
  forced : Option Nat
  deriving DecidableEq, Repr

/-- The following-error timer of a zone over a gain period, and the RHO values of a run that ended before its time expired (R175).
In ACQUIRE the timer is held at zero, judged or not (R174). -/
def State.feStep (s : State) (q : Zone) (judged : Bool) (elapsed : Nat) : Zone × Option (Nat × Nat) :=
  if q.mode = 0 then (q.endRun, if q.fePending then some (q.feFirst, q.rho) else none)
  else if !judged then (q, none)
  else if s.par K.zloopFeLimit < absDiff q.rho 1000 then
    ({ q with
      feTimer := q.feTimer + elapsed, fePending := q.fePending || q.feTimer == 0,
      feFirst := if q.feTimer = 0 then q.rho else q.feFirst }, none)
  else (q.endRun, if q.fePending then some (q.feFirst, q.rho) else none)

/-- The source that GAIN_SOURCE asks of a zone (R170): LUM (true) or CAL. -/
def State.wantedSource (s : State) (z : Nat) : Bool :=
  match s.par K.gainSource with
  | 0 => false
  | 1 => true
  | _ => s.zoneSensing z && decide ((s.zone z).lumValid < 8)

/-- The hand-over of a zone at a gain period (R171, R172): its state, a refusal's d, a forced move's d. With sensing lost, a request
that AUTO made lapses; one that a write of GAIN_SOURCE made stays refused until GAIN_SOURCE is written again. -/
def State.handOver (s : State) (z : Nat) (q : Zone) (lum : Option Nat) : Zone × Option Nat × Option Nat :=
  let dCal := disagreeCal (s.gzCal z) q.gz
  let want := s.wantedSource z
  if !s.zoneSensing z then
    if q.lumSource then ({ q with lumSource := false, refused := false }, none, some dCal)
    else ({ q with refused := q.refused && s.par K.gainSource != 2 }, none, none)
  else if want = q.lumSource then ({ q with refused := false }, none, none)
  else if q.refused && q.wantLum == want then (q, none, none)
  else
    let d := if want then lum.map fun l => absDiff (s.rhoOf z l) 1000 else some dCal
    match d with
    | none => (q, none, none)
    | some d =>
      if d ≤ s.par K.handoverLimit then ({ q with lumSource := want, refused := false }, none, none)
      else ({ q with refused := true, wantLum := want }, some d, none)

/-- The loop law of a zone (R168, R169); an open zone's Gz holds (R35). -/
def State.gainStep (s : State) (z : Nat) (q : Zone) (lum : Option Nat) : Zone :=
  if !q.closed then q
  else if q.lumSource then
    match lum with
    | none => q
    | some _ =>
      let band := if q.mode = 0 then 3 * s.par K.zloopBand else s.par K.zloopBand
      if q.rho + band < 1000 then { q with gz := min (q.gz + 16) 24576 }
      else if 1000 + band < q.rho then { q with gz := max (q.gz - 16) 8192 }
      else q
  else { q with gz := moveToward q.gz (s.gzCal z) }

/-- A zone over one gain period of its own (R167 to R177). `processed`: the zone loops reached it. -/
def State.gainZone (s : State) (z : Nat) (processed : Bool) : ZoneGain :=
  let avail := s.zoneSensing z
  let lum := if avail then s.sense.pubLum.getD z none else none
  let q0 := { s.zone z with awayDue := false }
  let q1 := if avail && !q0.hadSense then { q0 with mode := 0, sweepsLeft := 2, hadSense := true } else { q0 with hadSense := avail }
  let q2 := match processed, lum with
    | true, some l => { q1 with rho := min (s.rhoOf z l) 65535 }
    | _, _ => q1
  let (q3, passed) := s.feStep q2 (q2.lumSource && lum.isSome) (if avail then s.sense.n * 2048 else 64 * 2048)
  if processed then
    let (q4, reject, forced) := s.handOver z q3 lum
    ⟨s.gainStep z q4 lum, passed, reject, forced⟩
  else ⟨q3, passed, none, none⟩

/-- The first listed value and how many there are. -/
def firstAndCount (l : List (Nat × Option Nat)) : Option (Nat × Nat × Nat) :=
  let m := l.filterMap fun e => e.2.map fun d => (e.1, d)
  match m with
  | [] => none
  | e :: _ => some (m.length, e.1, e.2)

/-- Overrun accounting of a gain period, incomplete or not (R177). -/
def State.countOverrun (s : State) (incomplete : Bool) : State :=
  s.onSup fun u =>
    if incomplete then { u with
      overSeen := false, overruns := min 3 (u.overruns + 1), cleanRuns := 0, halfRate := u.halfRate || decide (2 ≤ u.overruns) }
    else
      let clean := min 64 (u.cleanRuns + 1)
      { u with
        overSeen := false, overruns := 0, cleanRuns := clean, halfRate := u.halfRate && decide (clean < 64) }

/-- Overrun accounting of one GAIN_PERIOD (R177). One in which zones' gain periods are due ends a period: it counts as overrun where it left
work, or where the headroom loop alone did so in a PWM cycle before it (log 30). `start`: the zone from which the next one goes on. -/
def State.judgeOverrun (s : State) (due incomplete : Bool) (start : Nat) : State :=
  let s1 := s.onSup fun u => { u with zoneStart := start }
  if due then s1.countOverrun (incomplete || s.sup.overSeen)
  else s1.onSup fun u => { u with overSeen := u.overSeen || incomplete }

/-- The events and records of a gain period (R171, R172, R175, R177), in ascending number. -/
def State.gainReports (s : State) (rs : List ZoneGain) (left : Nat) (incomplete : Bool) : State :=
  let s1 := if incomplete then s.raise { ev := 50, data := u16 left } else s
  let s2 := match firstAndCount (rs.zipIdx.map fun e => (e.2, e.1.reject)) with
    | some (n, z, d) => s1.raise { ev := 51, data := u32 n ++ u16 z ++ u16 d }
    | none => s1
  let s3 := match firstAndCount (rs.zipIdx.map fun e => (e.2, e.1.forced)) with
    | some (n, z, d) => s2.systemRecordWith (u32 n ++ u16 z ++ u16 d)
    | none => s2
  (rs.filterMap fun r => r.passed).foldl (fun s e => s.noteRun e.1 e.2) s3

/-- The injected signal of ZONE_GAIN at the gain period of its zone: the capture sample of the period that ends, with the Gz
delivered in it, then the signal of the next (R178, R180). -/
def State.gainSample (s : State) (gz : Nat) : State :=
  if s.par K.injTarget = 2 then
    ((s.captureSample gz).injectSample).onSup fun u => { u with
      injAt := if u.injecting then some (s.par K.injZone, u.injU) else none }
  else s.onSup fun u => { u with injAt := none }

/-- A gain period (R167 to R177) of the zones whose period is due: `done` zones were processed, in ascending cyclic order from the
start zone; the headroom loop finished or leaves V_SET as it was. A command in which no zone loop acts moves no start zone, the next
after one with work left begins at the first zone left, and one after a period that left none at zone 0 (DESIGN CHOICE, log 30). -/
def State.gainPeriod (s : State) (done : Nat) (headroomDone : Bool) : State :=
  let did := min done 512
  let start := s.sup.zoneStart
  let inTime := fun z => decide ((z + 512 - start) % 512 < did)
  let acts := (upTo 512).filter fun z => s.gainDueFor z && !s.gainSkips z
  let left := ((upTo 512).map fun k => (start + k) % 512).filter fun z => acts.contains z && !inTime z
  let incomplete := !left.isEmpty || !headroomDone
  let rs : List ZoneGain := (upTo 512).map fun z =>
    if s.gainDueFor z then s.gainZone z (!s.gainSkips z && inTime z) else ⟨s.zone z, none, none, none⟩
  let s1 : State := { s with zones := rs.map ZoneGain.zone }
  let s2 := s1.judgeOverrun ((upTo 512).any s.gainDueFor) incomplete (if acts.isEmpty then start else left.headD 0)
  let s3 := (s2.onZones fun z q => if s.gainDueFor z then { q with skipNext := s2.sup.halfRate && !q.skipNext } else q).onSup fun u =>
    { u with gainDue := false }
  let s4 := if headroomDone then s3 else s3.onSup fun u => { u with vset := u.vsetPrev, vbase := u.vbasePrev }
  let s5 := ((s4.gainReports rs left.length incomplete).judgeHealth).judgeStormsSince s.flt.counts
  let zone := (s.sup.injAt.map (·.1)).getD (s.par K.injZone)
  if s.gainDueFor zone then s5.gainSample (s.gzDelivered zone) else s5

end Sys2Proof.Machine
end

