-- ==== Sys2Proof/Machine/CommitOps.lean ====
section
/-! DEFINITION. Commits: their payload (R111, R123, R256), the answers to a commit (R264, R299), and
binding (R18, R54 to R58, R329). -/

namespace Sys2Proof.Machine

open Sys2Proof

/-! ### The payload of a commit (R111, R123, R256) -/

/-- A layer record of 40 bytes (Table 12-6). -/
def parseLayer (b : List Byte) : LayerUpdate :=
  let f := fun o n => field b o n
  let i := fun o n => ofRaw (8 * n) (field b o n)
  { layer := f 0 1
    bind := { enable := bitOf (f 1 1) 0, blend := f 2 1, alpha := f 3 1, level := f 4 2, surface := f 6 1, srcX := f 8 2, srcY := f 10 2,
              srcW := f 12 2, srcH := f 14 2, dstX := i 16 2, dstY := i 18 2, dstW := f 20 2, dstH := f 22 2, stepX := f 24 4,
              stepY := f 28 4, orgX := i 32 4, orgY := i 36 4, filtH := b2n (bitOf (f 1 1) 1), filtV := b2n (bitOf (f 1 1) 2),
              edge := 0, policy := 0, holdMax := 0, fbSurface := 0 } }

/-- Whether a layer record is valid beside the layers named before it (R256). -/
def layerRecordOk (b : List Byte) (before _after : List Nat) : Bool :=
  let f := fun o n => field b o n
  let l := f 0 1
  decide (l ≤ 7) && !before.contains l && decide (f 1 1 < 8) && decide (f 2 1 ≤ 5) && decide (f 6 1 ≤ 63) && f 7 1 == 0 &&
    (decide (l < 2) || (bits (f 1 1) 1 2 == 0 && (b.drop 20).all (· == 0)))

/-- A box record of 12 bytes (Table 6-1). -/
def parseBox (b : List Byte) : Nat × Box :=
  let f := fun o n => field b o n
  (f 0 1, if bitOf (f 1 1) 0 then ⟨true, f 2 1, f 4 2, f 6 2, f 8 2, f 10 2⟩ else Box.off)

/-- Whether a box record is valid beside the slots that other records of its commit name (R111). -/
def boxRecordOk (b : List Byte) (before after : List Nat) : Bool :=
  let f := fun o n => field b o n
  decide (f 0 1 ≤ 31) && decide (f 1 1 < 2) && !(before ++ after).contains (f 0 1) &&
    (f 1 1 == 0 || (f 3 1 == 0 && decide (f 2 1 ≤ 64) && decide (f 4 2 ≤ f 8 2) && decide (f 8 2 ≤ 2047) && decide (f 6 2 ≤ f 10 2) &&
      decide (f 10 2 ≤ 511)))

/-- A signature record of 8 bytes (Table 6-5). -/
def parseSig (b : List Byte) : SigUpdate :=
  let f := fun o n => field b o n
  ⟨f 0 1, bitOf (f 1 1) 0, bitOf (f 1 1) 1, f 4 4⟩

/-- Whether a signature record is valid beside the windows named before it (R123). -/
def sigRecordOk (b : List Byte) (before _after : List Nat) : Bool :=
  decide (field b 0 1 ≤ 15) && decide (field b 1 1 < 4) && field b 2 2 == 0 && !before.contains (field b 0 1)

/-- The records of one size and kind from an offset, or the offset of the first invalid one. -/
def parseRecords {α : Type} (size : Nat) (ok : List Byte → List Nat → List Nat → Bool) (parse : List Byte → α) (bs : List Byte)
    (off n : Nat) : Except Nat (List α) :=
  let recs := (upTo n).map fun k => (off + size * k, (bs.drop (off + size * k)).take size)
  let names := recs.map fun r => field r.2 0 1
  match (recs.zipIdx.find? fun e => !ok e.1.2 (names.take e.2) (names.drop (e.2 + 1))) with
  | some e => .error e.1.1
  | none => .ok (recs.map fun r => parse r.2)

/-- A COMMIT payload, or the payload offset of its first invalid record (R256); 0 where its lengths or its header fail. -/
def parseCommit (bs : List Byte) : Except Nat (List LayerUpdate × List (Nat × Box) × List SigUpdate) := do
  let nl := field bs 0 1
  let nb := field bs 1 1
  let ns := field bs 2 1
  if bs.length ≠ 4 + 40 * nl + 12 * nb + 8 * ns ∨ 8 < nl ∨ 32 < nb ∨ 16 < ns ∨ field bs 3 1 ≠ 0 then .error 0
  else
    let ls ← parseRecords 40 layerRecordOk parseLayer bs 4 nl
    let xs ← parseRecords 12 boxRecordOk parseBox bs (4 + 40 * nl) nb
    let ss ← parseRecords 8 sigRecordOk parseSig bs (4 + 40 * nl + 12 * nb) ns
    .ok (ls, xs, ss)

/-! ### Answers -/

/-- COMMIT_RESULT of a SYNC (R299). -/
def State.commitResult (s : State) (tag code : Nat) : State :=
  s.sendCan (grenzFrame 9 s.can.addr 0x60 0 0 0 0 (u32 tag ++ u8 code ++ [0, 0, 0]))

/-- A commit's answer: BOUND (1), DEFERRED (2) or MERGED (3) (R256, R299). -/
def State.answerCommit (s : State) (c : Commit) (code : Nat) : State :=
  match c.source with
  | .vexlink seq ack bro => s.ack ack bro seq 0x11 code c.tag
  | .sync => s.commitResult c.tag code
  | .campion => s
  | .returned => s

/-! ### Binding (R54 to R58) -/

/-- Whether a commit bound now fits (R56), in units of 0.1 us. -/
def State.fitsNow (s : State) : Bool :=
  decide (s.tim.served < s.tim.maxCyc) &&
    decide (s.now * 10 + s.margin * 2048 ≤ s.tim.boundaryAt * 10 + (s.tim.maxCyc - s.tim.served) * 2048)

/-- EV008 for a merge of a later commit over an earlier one. -/
def State.raiseMerged (s : State) (later earlier : Commit) : State := s.raise { ev := 8, data := u32 later.tag ++ u32 earlier.tag }

/-- A commit enters the pending slot, merged over one that is there (R55, R58). -/
def State.deferCommit (s : State) (c : Commit) : State :=
  match s.tim.pend with
  | none => ((s.onTim fun t => { t with pend := some c }).raise { ev := 7, data := u32 c.tag }).answerCommit c 2
  | some p => ((s.onTim fun t => { t with pend := some (mergeCommit p c) }).raiseMerged c p).answerCommit c 3

/-- A commit starts its composition at once, with what it supersedes merged under it, each merge raising EV008 (R54, R56). -/
def State.startMerged (s : State) (c : Commit) (under : List Commit) : State :=
  let m := match under with
    | [] => c
    | e :: rest => mergeCommit (rest.foldl mergeCommit e) c
  let s1 := under.foldl (fun s e => s.raiseMerged c e) s
  (s1.answerCommit c (if under.isEmpty then 1 else 3)).startCommit m


/-- Whether a commit may supersede a work frame: a refresh always (R57), a committed frame under LATEST_WINS_IF_FITS (R56), and never
a frame of the other kind of a native and a Campion pair, which is finished and shown (R331). -/
def State.maySupersede (s : State) (f : Frame) (c : Commit) : Bool :=
  s.fitsNow && f.campion.isSome == c.campion && (f.commit.isNone || s.tim.policy == 1)

/-- A commit is bound (R18, R54 to R58). -/
def State.bindCommit (s : State) (c0 : Commit) : State :=
  let c := { c0 with stamp := s.dict.stamp }
  if s.pwr.dev == .fallback then
    let s1 := s.onGlare fun g => { g with hostBoxes := applyBoxes g.hostBoxes c.boxes }
    (s1.deferCommit c).fireRender
  else if !s.mayCompose then s.deferCommit c
  else match s.tim.work with
    | some f =>
      if s.maySupersede f c then s.abandonWork.startMerged c (f.commit.toList ++ s.tim.pend.toList) else s.deferCommit c
    | none => s.startMerged c s.tim.pend.toList

/-- A Campion commit is bound with a tag (R329). -/
def State.bindCampion (s : State) (tag : Nat) (source : CommitSource) : State :=
  let s1 := s.onComp fun m => { m with campionCommits := inc32 m.campionCommits 1, unbound := false }
  s1.bindCommit ⟨tag, [], [], [], true, source, 0⟩

/-- The tag of a Campion commit bound by a write: 0x8000_0000 plus the count of Campion commits, this one included (R329). -/
def State.campionTag (s : State) : Nat := 0x80000000 + (s.comp.campionCommits + 1) % 0x80000000

end Sys2Proof.Machine
end

