-- ==== Sys2Proof/Machine/GuardOps.lean ====
section
/-! DEFINITION. Signature windows (R122 to R127), the guard pass and its second looks (R128, R129), and the monitor copy (R90). -/

namespace Sys2Proof.Machine

open Sys2Proof

/-! ### Windows of a frame (R123, R127) -/

/-- Whether two rectangles, the first a box with its dilation, intersect. -/
def Box.meets (b : Box) (w : Win) : Bool :=
  b.enable && decide (b.x0 ≤ w.x1 + b.dilate) && decide (w.x0 ≤ b.x1 + b.dilate) && decide (b.y0 ≤ w.y1 + b.dilate) &&
  decide (w.y0 ≤ b.y1 + b.dilate)

/-- A window of a frame. -/
def Frame.win (f : Frame) (n : Nat) : Win := f.wins.getD n ⟨0, 0, 0, 0, 0⟩

/-- The expected state of a window in force for a frame. -/
def Frame.expect (f : Frame) (n : Nat) : SigExpect := f.expects.getD n ⟨false, false, 0⟩

/-- What a window reads in a frame before it is checked: BLANKED, SUSPENDED or IDLE (R127), or none where it is checked. In a
fallback frame a blanked window reads BLANKED and a disarmed one IDLE (log 50). -/
def Frame.windowUnchecked (f : Frame) (n : Nat) : Option SigPhase :=
  if f.blanked.getD n false then some .blanked
  else if !(f.expect n).armed then some .idle
  else if f.kind == .fallback then some .suspended
  else if (f.win n).mode == 1 && !(f.expect n).expectSelf && f.reflexBoxes.any (fun b => b.meets (f.win n)) then some .suspended
  else none

/-- Whether a window of a mode is checked in a frame (R125, R127). -/
def Frame.checksWindow (f : Frame) (n mode : Nat) : Bool := (f.windowUnchecked n).isNone && (f.win n).mode == mode

/-- `s` with window `n`'s state modified. -/
def State.onWindow (s : State) (n : Nat) (g : WindowState → WindowState) : State :=
  s.onGlare fun m => { m with windows := m.windows.modify n g }

/-- The windows of a mode that a frame does not check take what they read (R127): INTENSITY windows in its composition, CODE windows
when it is displayed. One that is checked again keeps what it read until its first judgement (DESIGN CHOICE, log 50). -/
def State.markUnchecked (s : State) (f : Frame) (mode : Nat) : State :=
  let mark := fun (n : Nat) (w : WindowState) =>
    match f.windowUnchecked n with
    | some p => if (f.win n).mode = mode then { w with phase := p } else w
    | none => w
  s.onGlare fun g => { g with windows := g.windows.mapIdx mark }

/-- A window whose signature agreed at its first look. -/
def State.windowMatches (s : State) (n v : Nat) : State := s.onWindow n fun w => { w with phase := .isMatch, actual := v }

/-- A TRANSIENT signature mismatch (R125). -/
def State.windowTransient (s : State) (n first second : Nat) : State :=
  (s.onWindow n fun w => { w with phase := .transient, actual := second, transients := inc32 w.transients 1 }).noteTransient
    chkSignature (u32 first ++ u32 second)

/-- The zones that a window intersects (R206). -/
def windowZones (w : Win) : List Nat :=
  (upTo 512).filter fun z =>
    let x0 := 64 * (z % 32)
    let y0 := 32 * (z / 32)
    decide (x0 ≤ w.x1) && decide (w.x0 ≤ x0 + 63) && decide (y0 ≤ w.y1) && decide (w.y0 ≤ y0 + 31)

/-- A LASTING signature mismatch of a frame's window: EV084 (R125, R126). Its reaction follows. Under WINDOW_BLANK it reads LASTING until the first frame that blanks it, and BLANKED from that frame on (log 50). -/
def State.windowLasting (s : State) (f : Frame) (n v : Nat) : State :=
  let act := s.par K.reactSignature
  let s1 := s.onWindow n fun w => { w with phase := .lasting, actual := v, isBlanked := w.isBlanked || act == 1 }
  s1.raise { ev := 84, data := u16 n ++ u8 (f.win n).mode ++ u32 v ++ u8 act, lasting := true, check := chkSignature }

/-- The reactions to LASTING signature mismatches of windows of a frame, where they are not WINDOW_BLANK (R126, R206). -/
def State.windowReactions (s : State) (f : Frame) (l : List Nat) : List Reaction :=
  l.map fun n => ⟨s.par K.reactSignature, windowZones (f.win n), s.evSeverity 84⟩

/-! ### The guard pass (R128, R129) -/

/-- The bank that holds the DISPLAYED role (R49). -/
def State.dispBank (s : State) : List Host.Cell := if s.tim.fs1Displayed then s.tim.bank1 else s.tim.bank0

/-- A code as the guard checker read it: the bank's, but for those it misread. -/
def readCode (rows : Array (Array Nat)) (mis : Misreads) (x y : Nat) : Nat :=
  match mis.find? fun m => m.1 == x && m.2.1 == y with
  | some m => m.2.2 % 4096
  | none => rowsCode rows x y

/-- The pixels that a box covers, in row order (R112). -/
def Box.pixels (b : Box) : List (Nat × Nat) :=
  let x0 := b.x0 - b.dilate
  let y0 := b.y0 - b.dilate
  let x1 := min (b.x1 + b.dilate) 2047
  let y1 := min (b.y1 + b.dilate) 511
  ((upTo (y1 + 1 - y0)).map fun dy => (upTo (x1 + 1 - x0)).map fun dx => (x0 + dx, y0 + dy)).flatten

/-- The pixels of a box that read a non-zero code, in row order (R129). -/
def violations (code : Nat → Nat → Nat) (b : Box) : List (Nat × Nat) := b.pixels.filter fun p => code p.1 p.2 != 0

/-- A guard pass begins (R128). -/
def State.beginGuard (s : State) : State := s.onGlare fun g => { g with guardRunning := true, sumDisp := [] }

/-- The value a CODE window is compared with (R125). -/
def Frame.codeExpected (f : Frame) (n : Nat) : Nat := if (f.expect n).expectSelf then f.sigSelf.getD n 0 else (f.expect n).expected

/-- The guard pass ends (R125, R128, R129, R166): failed boxes and CODE windows await their second look, and SUM_DISP is formed.
SIG_ACTUAL takes no value of a first look that mismatches (log 50). -/
def State.guardPass (s : State) (mis : Misreads) : State :=
  let f := s.tim.disp
  let rows := bankRows s.dispBank
  let code := readCode rows mis
  let looks := (f.boxSet.map fun b => (b.1, b.2.1, (violations code b.2.2).length)).filter fun l => l.2.2 != 0
  let sigs := ((upTo 16).filter fun n => f.checksWindow n 1).map fun n => (n, signature n (f.win n) code)
  let bad := sigs.filter fun e => e.2 != f.codeExpected e.1
  let good := sigs.filter fun e => e.2 == f.codeExpected e.1
  let sums := (upTo 512).map fun z => sumNat ((zonePixels z).map fun p => code p.1 p.2)
  let s1 := s.onGlare fun g => { g with guardRunning := false, guardLooks := looks, sigLooks := bad, sumDisp := sums }
  good.foldl (fun s e => s.windowMatches e.1 e.2) s1

/-- The pixels of a box that read a non-zero code at its second look; none where the box is no longer displayed (R129). -/
def State.boxViolations (s : State) (code : Nat → Nat → Nat) (look : Nat × Nat × Nat) : Option (List (Nat × Nat)) :=
  (s.tim.disp.boxSet.find? fun b => b.1 == look.1 && b.2.1 == look.2.1).map fun b => violations code b.2.2

/-- The zones of pixels. -/
def zonesOf (l : List (Nat × Nat)) : List Nat := l.foldl (fun a q => setAdd a (zoneOf q.1 q.2)) []

/-- The second look of one box, but for its reaction (R129). -/
def State.rereadBox (s : State) (code : Nat → Nat → Nat) (look : Nat × Nat × Nat) : State :=
  match s.boxViolations code look with
  | none => s
  | some [] =>
    (s.onGlare fun g => { g with kdTransients := inc32 g.kdTransients 1 }).noteTransient chkKeepDark (u32 look.2.2 ++ u32 0)
  | some (p :: rest) =>
    (s.raise
      { ev := 83, data := u8 look.1 ++ u16 look.2.1 ++ u16 p.1 ++ u16 p.2 ++ u32 (rest.length + 1), lasting := true,
        check := chkKeepDark }).openZones (zonesOf (p :: rest)) .fault true

/-- The reaction to the LASTING violation of a box, where it is one (R129, R206). -/
def State.boxReaction (s : State) (code : Nat → Nat → Nat) (look : Nat × Nat × Nat) : Option Reaction :=
  match s.boxViolations code look with
  | some (p :: rest) => some ⟨s.par K.reactKeepDark, zonesOf (p :: rest), s.evSeverity 83⟩
  | _ => none

/-- The second look of one CODE window, but for its reaction (R125). -/
def State.rereadWindow (s : State) (code : Nat → Nat → Nat) (look : Nat × Nat) : State :=
  let f := s.tim.disp
  let v := signature look.1 (f.win look.1) code
  if v = f.codeExpected look.1 then s.windowTransient look.1 look.2 v else s.windowLasting f look.1 v

/-- The second looks of the guard checker complete (R125, R126, R128, R129): the boxes and then the windows raise their events, and then their
reactions act (R208, R337). -/
def State.guardReread (s : State) (mis : Misreads) : State :=
  let f := s.tim.disp
  let rows := bankRows s.dispBank
  let code := readCode rows mis
  let boxes := s.glare.guardLooks
  let sigs := s.glare.sigLooks
  let bad := (sigs.map (·.1)).filter fun n => signature n (f.win n) code != f.codeExpected n
  let s1 := s.onGlare fun g => { g with guardLooks := [], sigLooks := [] }
  let s2 := boxes.foldl (fun s l => s.rereadBox code l) s1
  let s3 := sigs.foldl (fun s l => s.rereadWindow code l) s2
  let s4 := s3.reactAll ((boxes.filterMap fun l => s3.boxReaction code l) ++ s3.windowReactions f bad)
  let s5 := if !bad.isEmpty && s.par K.reactSignature == 1 then s4.fire .window else s4
  s5.judgeHealth.judgeStormsSince s.flt.counts

/-! ### The monitor copy (R90) -/

/-- A monitor copy begins at a swap whose FRAME_COUNT is a multiple of MONITOR_DIVIDER (R90). -/
def State.beginMonitor (s : State) : State :=
  if s.par K.monitorEnable = 1 ∧ s.tim.frameCount % s.par K.monitorDivider = 0 then
    s.onComp fun c => { c with monForming := some (s.tim.frameCount, s.tim.displayedTag, s.tim.fs1Displayed) }
  else s

/-- The MONITOR DOMAIN (Table 12-10). -/
def State.monitorDomain (s : State) : List Byte :=
  let c := s.comp
  u32 c.monSeq ++ u32 c.monFrame ++ u32 c.monTag ++ u32 0 ++ ((upTo 16384).map fun j => u16 (c.monitor.getD j 0)).flatten

/-- The copy being formed is whole: it replaces the readable one, and is sent while MONITOR_STREAM is 1 (R90, R261). -/
def State.finishMonitor (s : State) : State :=
  match s.comp.monForming with
  | none => s
  | some (fc, tag, b) =>
    let rows := bankRows (if b then s.tim.bank1 else s.tim.bank0)
    let s1 := s.onComp fun c => { c with
      monForming := none, monSeq := inc32 c.monSeq 1, monFrame := fc, monTag := tag,
      monitor := (upTo 16384).map fun j => monitorValue rows (j % 256) (j / 256) }
    if s1.par K.monitorStream = 1 then s1.deliver 0x51 0 0 0 s1.monitorDomain else s1

end Sys2Proof.Machine
end

