-- ==== Sys2Proof/Machine/HostOps.lean ====
section
/-! DEFINITION. Host presence (R220, R300) and what follows from its beginning and its end (R196, R218, R219). -/

namespace Sys2Proof.Machine

open Sys2Proof

/-- Whether something last seen at a time counts as within HOST_LOSS_MS (R220). -/
def State.fresh (s : State) (t : Option Nat) : Bool :=
  match t with
  | some t => decide (s.now < t + 1000 * s.par K.hostLoss)
  | none => false

/-- Whether R220 finds the host present. -/
def State.presence (s : State) : Bool := s.fresh s.flt.beat || (s.fresh s.flt.packet && !s.flt.upLost)

/-- The host is present: HOST_LOST and LIGHT_ON_NO_HOST clear (R219). -/
def State.hostAppears (s : State) : State :=
  let s1 := s.onFlt fun f => { f with hostPresent := true, hostLostRaised := false }
  (s1.clearFb .hostLost).clearFb .lightOnNoHost

/-- EV101 is raised (R220), and HOST_LOST engages the fallback beam while LIT or while LIGHT_ON is asserted (Table 10-7). A fallback
beam with every cause cleared goes to READY (R219). -/
def State.hostLost (s : State) : State :=
  let s1 := (s.onFlt fun f => { f with hostPresent := false, hostLostRaised := true }).raise { ev := 101, data := [] }
  let s2 := if s1.pwr.dev == .lit || s1.pwr.lightOn then s1.engage .hostLost else s1
  s2.judgeRelease.tryThermalExit

/-- Host presence is judged again (R220). -/
def State.judgePresence (s : State) : State :=
  if s.presence then (if s.flt.hostPresent then s else s.hostAppears)
  else if s.flt.hostPresent then s.hostLost else s

/-- A host-sourced Vexlink packet has been consumed (R220). -/
def State.hostPacket (s : State) : State := (s.onFlt fun f => { f with packet := some s.now }).judgePresence

/-- The levels of the light-request pins (R415). -/
def State.pins (s : State) (p : LightPins) : State := s.onPwr fun q => { q with lightOn := p.lightOn, limpLow := p.limpLow }

/-- The whole of HOST_LOSS_TIMEOUT (R218, R220): neither heartbeat nor packet has come within HOST_LOSS_MS. At power-up, with a host
never present, LIGHT_ON_NO_HOST holds where LIGHT_ON is asserted. A heartbeat received in the period of the expiry counts as received in
time (R368). -/
def State.lossTimeout (s : State) (p : LightPins) : State :=
  if s.flt.beat == some s.now then s.pins p
  else
  let s1 := (s.pins p).onFlt fun f => { f with beat := none, packet := none }
  if s.flt.hostPresent then s1.hostLost
  else if s.flt.hostLostRaised then s1
  else
    let s2 := if s1.pwr.lightOn then s1.engage .lightOnNoHost else s1
    s2.hostLost

end Sys2Proof.Machine
end

