-- ==== Sys2Proof/Machine/LaneOps.lean ====
section
/-! DEFINITION. Vexlink lanes: blind bring-up and its failures (R233 to R236), loss and return (R238 to R240, R271, R300), lane
states and wake (R241 to R245), and a change of rate or width (R246). -/

namespace Sys2Proof.Machine

open Sys2Proof

/-- Whether Yarrow serves ALIGN and ENUM: firmware is up and no hand-over runs (R233, R237, Table 17-1). -/
def State.laneService (s : State) : Bool := s.pwr.link && s.up && s.rally.phase != .handover

/-- A lane at the start of a bring-up; POL_INV is kept until reset (R234). -/
def Lane.restart (l : Lane) : Lane := { l with aligned := false, tries := 0, slips := 0, deskew := 0, logical := none }

/-- The receiver brings itself up blind from LOCK (R233). -/
def State.rxRestart (s : State) : State :=
  s.onVex fun v => { v with rx := .lock, rxLane := .l0, lanes := v.lanes.map Lane.restart, retryDue := false, wakeLock := false }

/-- A failure in LOCK, ALIGN, DESKEW or ENUM: EV102 once per run of failures, and LOCK after 100 us (R233). -/
def State.laneFail (s : State) (lane : Nat) (reason : LaneFail) : State :=
  let s1 := s.onVex fun v => { v with lastFail := laneFailNum reason, failRun := true, retryDue := true }
  if s.vex.failRun then s1 else s1.raise { ev := 102, data := u16 lane ++ u8 (laneFailNum reason) }

/-- The receiver is searching for its lanes in a state. -/
def State.bringing (s : State) (x : RxState) : Bool := s.vex.rx == x && !s.vex.retryDue

/-! ### Alignment (R234) -/

/-- One pass of the alignment loop for a lane: aligned at 64 sets, else its polarity and boundary are corrected and the try counted. -/
def Lane.poll (l : Lane) (look : LaneLook) : Lane :=
  let pos := look.commaPos.map Fin.val
  if 64 ≤ look.stable then { l with commaPos := pos, aligned := true }
  else { l with
    commaPos := pos, polInv := l.polInv != look.inverted, slips := l.slips + pos.getD 0, tries := l.tries + 1 }

/-- The lanes that are aligned. -/
def State.alignedLanes (s : State) : List Nat := (upTo 4).filter fun k => (s.vex.lanes.getD k Lane.reset).aligned

/-- A lane has been polled: with w lanes aligned the receiver enters DESKEW; a fifth try fails with NO_COMMA. -/
def State.afterPoll (s : State) (lane : Nat) : State :=
  let l := s.vex.lanes.getD lane Lane.reset
  if !l.aligned && decide (4 < l.tries) then s.laneFail lane .noComma
  else if s.alignedLanes.length = s.vxLanes then s.onVex fun v => { v with rx := .deskew }
  else s

/-! ### Deskew (R235) -/

/-- The delays in characters that bring the markers of the aligned lanes into one column. -/
def State.deskewLanes (s : State) (arrival : List Nat) : State :=
  let active := s.alignedLanes
  let late := maxNat (active.map fun k => arrival.getD k 0)
  s.onVex fun v => { v with
    rx := .enum, lanes := v.lanes.mapIdx fun k l => if active.contains k then { l with deskew := (late - arrival.getD k 0 + 9) / 10 } else l }

/-- DESKEW ends: skew up to 32 UI is accepted, and a larger one fails on the latest lane. -/
def State.deskew (s : State) (arrival : List Nat) : State :=
  let times := s.alignedLanes.map fun k => (k, arrival.getD k 0)
  let late := maxNat (times.map Prod.snd)
  if times.any fun e => decide (e.2 + 32 < late) then
    s.laneFail (((times.find? fun e => e.2 == late).map Prod.fst).getD 0) .skew
  else s.deskewLanes arrival

/-! ### Enumeration of lanes (R236) and return to UP (R240, R271, R300) -/

/-- What is wrong with a lane map: the physical lane and the reason; none where the map is accepted. -/
def laneMapFault (w width : Nat) (info : List (Option Byte)) : Option (Nat × LaneFail) :=
  let seen := (info.zipIdx.filterMap fun e => e.1.map fun b => (e.2, b.toNat))
  let wide := seen.find? fun e => bits e.2 6 2 != width
  let logical := seen.map fun e => bits e.2 4 2
  match wide with
  | some e => some (e.1, .widthMismatch)
  | none =>
    if (upTo w).all (fun n => (logical.filter (· == n)).length == 1) && logical.length == w then none
    else
      let bad := seen.find? fun e => decide (w ≤ bits e.2 4 2) ||
        decide (1 < (logical.filter (· == bits e.2 4 2)).length)
      some ((bad.map Prod.fst).getD 0, .dupLane)

/-- The receiver enters UP with a lane map. -/
def State.acceptMap (s : State) (info : List (Option Byte)) : State :=
  s.onVex fun v => { v with
    rx := .up, rxLane := .l0, failRun := false, lost := false, lostTimed := false
    lanes := v.lanes.mapIdx fun k l => { l with logical := (info.getD k none).map fun b => bits b.toNat 4 2 } }

/-- A loss that ended within VX_LOSS_MS is TRANSIENT: counted, and logged at severity 0 (R240). No row of Table 10-1 is its check. -/
def State.lossTransient (s : State) : State :=
  (s.onVex fun v => { v with losses := inc32 v.losses 1 }).transientRecord 0xFFFF []

/-- The receiver returns to UP; after a loss LOSS_SEEN is set, STATUS is sent, and CAN-only operation ends (R240, R271, R300). -/
def State.comeUp (s : State) (info : List (Option Byte)) : State :=
  let s1 := s.acceptMap info
  if s.vex.lost then
    let s2 := if s.vex.lostTimed then s1 else s1.lossTransient
    let s3 := (s2.onVex fun v => { v with lossSeen := true }).onFlt fun f => { f with upLost := false }
    ((s3.onCan fun c => { c with canOnly := false }).judgePresence).queueStatus
  else s1

/-- Upstream lock has been lost for VX_LOSS_MS (R220, R240, R300): EV096, host presence is judged, and with the host still present the
module runs in CAN-only operation. -/
def State.lossLasting (s : State) : State :=
  let s1 := (s.onVex fun v => { v with lostTimed := true }).onFlt fun f => { f with upLost := true }
  let s2 := s1.raise { ev := 96, data := u8 s.vex.rx.num ++ u8 s.vex.lastFail, lasting := true }
  let s3 := s2.judgePresence
  if s3.flt.hostPresent then (s3.onCan fun c => { c with canOnly := true }).dropStreams else s3

/-! ### Transmitter (R242 to R246) -/

/-- Something waits on the output (R242). -/
def State.outputWaits (s : State) : Bool := !s.vex.own.isEmpty || !s.vex.retx.isEmpty

/-- A forwarded packet is in flight, on the output or waiting for it (R242). -/
def State.forwarding (s : State) : Bool := s.vex.sending == .forwardedPacket || !s.vex.fwd.isEmpty || s.vex.fwdOpen

/-- The transmitter finishes what is in flight, announces a lane state and stops driving (R243). -/
def State.txAnnounce (s : State) (level : Nat) (l : LaneState) : State :=
  s.onVex fun v => let w := v.finish; { w with out := .announce level :: w.out, txLane := l }

/-- The transmitter leaves L1 with a wake burst (R244). -/
def State.txWake (s : State) : State :=
  if s.vex.txLane == .l1 then s.onVex fun v => { v with out := .wakeBurst :: v.out, txLane := .l0 } else s

/-- In STANDBY, LINK is powered down once every lane is in L2 (Table 18-2). -/
def State.judgeLink (s : State) : State :=
  if s.pwr.dev == .standby && s.pwr.link && s.vex.rxLane == .l2 && s.vex.txLane == .l2 && !s.vex.restart then s.linkDown else s

/-- A write of VX_RATE or VX_WIDTH takes effect (R246): a transmitter that drives announces GOING_L2, and it restarts 100 us later. The
receiver returns to OFF, which it leaves at once for LOCK, as LINK is powered and the rate in force (Table 11-5). -/
def State.changeLink (s : State) : State :=
  if s.pwr.link then
    let s1 := if s.vex.txLane == .l0 then s.txAnnounce 2 .l2 else s.onVex fun v => { v with txLane := .l2 }
    (s1.rxRestart).onVex fun v => { v with restart := true }
  else s

/-- A character error on a physical lane is counted (R239). -/
def State.countCharError (s : State) (lane : Nat) : State :=
  s.onVex fun v => { v with lanes := v.lanes.modify lane fun l => { l with errors := inc32 l.errors 1 } }

end Sys2Proof.Machine
end

