-- ==== Sys2Proof/Machine/RecordOps.lean ====
section
/-! DEFINITION. Duplicated flash records: what each holds, the write of one copy and its verification, the rewriting of a copy from
the other (R281, R282, R315), and what a completed write brings with it (R173, R314, R315). -/

namespace Sys2Proof.Machine

open Sys2Proof

/-! ### Copies (R281) -/

/-- The content of the other copy. -/
def Dup.other {α : Type} (d : Dup α) : CopyId → Option α
  | .a => d.b.content
  | .b => d.a.content

/-- One copy. -/
def Dup.copy {α : Type} (d : Dup α) : CopyId → FlashCopy α
  | .a => d.a
  | .b => d.b

/-- A copy written with a content, good where its check passes; with nothing to write it stays. -/
def Dup.store {α : Type} (d : Dup α) (c : CopyId) (ok : Bool) (new : Option α) : Dup α :=
  match new with
  | none => d
  | some v =>
    let k := if ok then FlashCopy.good v else .bad
    match c with
    | .a => { d with a := k }
    | .b => { d with b := k }

/-- Whether a copy is to be rewritten from the other (R281, points 2 to 4); `older` says which of two contents is older by GEN. -/
def Dup.stale {α : Type} [DecidableEq α] (d : Dup α) (c : CopyId) (older : α → α → Bool) : Bool :=
  match d.a.content, d.b.content, c with
  | some _, none, .b => true
  | none, some _, .a => true
  | some x, some y, .a => older x y
  | some x, some y, .b => decide (x ≠ y) && !older x y
  | _, _, _ => false

/-- A slot's record with one copy written: the slot as it is, or the other copy (R281, R386). -/
def Slot.putCopy (y : Slot) (c : CopyId) (ok fresh : Bool) : Slot :=
  { y with copies := y.copies.store c ok (if fresh then some (Sealed.of slotValue y.record) else y.copies.other c) }

/-! ### Contents -/

/-- The Gp table as flash lists it: pixels whose g is not 128. -/
def State.gpEntries (s : State) : List (Nat × Nat) :=
  (s.chk.cal.filter fun c => c.1 < 0x100000).map fun c => (c.1, (c.2 ^^^ 0x80).toNat)

/-- Whether an object is RW (Table 15-2). -/
def isRw (key : Nat) : Bool :=
  match objFind (key / 256) (key % 256) with
  | some o => o.acc == ObjAccess.rw
  | none => false

/-- The values in force of the objects whose written value may still be staged (R30, R65, R66, R114, R147). -/
def State.inForce (s : State) : List (Nat × Nat) :=
  [(K.frameMin, s.tim.minCyc), (K.frameMax, s.tim.maxCyc), (K.lineMatch, s.tim.lineMatch), (K.commitPolicy, s.tim.policy),
    (K.underrunPolicy, s.tim.underPolicy), (K.senseInterval, s.sense.n), (K.kdEnable, b2n s.glare.kdEnable)] ++
  (s.glare.wins.zipIdx.map fun e =>
    [(objKey (0x2440 + e.2) K.winX0, e.1.x0), (objKey (0x2440 + e.2) K.winY0, e.1.y0), (objKey (0x2440 + e.2) K.winX1, e.1.x1),
      (objKey (0x2440 + e.2) K.winY1, e.1.y1), (objKey (0x2440 + e.2) K.sigMode, e.1.mode)]).flatten

/-- The content of the PARK image (R354). -/
def State.parkContent (s : State) : ParkImage :=
  { vals := s.inForce.foldl (fun v e => setPar v e.1 e.2) (s.dict.vals.filter fun e => isRw e.1)
    doms := s.dict.doms.filter fun e => isRw e.1
    addr := s.vex.addr
    epoch := s.vex.epoch
    canAddr := s.can.addr
    latched := s.mgmt.latched
    logIndex := [s.mgmt.can.logIndex, s.mgmt.vexlink.logIndex, s.mgmt.svc.logIndex]
    stage := s.can.stage
    stageCommit := s.can.stageCommit
    stuckHold := (upTo 512).filter fun z => (s.zone z).stuckHold
    stuckLook := (upTo 512).filter fun z => (s.zone z).stuckLook
    hostOpen := (upTo 512).filter fun z => (s.zone z).causes.contains .host
    faultOpen := (upTo 512).filter fun z => (s.zone z).causes.contains .fault }

/-- A fallback image waiting to be written. -/
def Flash.newImage (f : Flash) (i : Nat) : Option FbImage := kvGet f.fbNew i

/-! ### One copy written -/

/-- One copy of a record is written and read back: copy A of a write that is due takes the new content, any other write copies the
other copy (R281). -/
def State.storeCopy (s : State) (r : RecordId) (c : CopyId) (ok fresh : Bool) : State :=
  match r with
  | .persist => s.onFlash fun f => { f with persist := f.persist.store c ok (if fresh then some (Sealed.of persistValue ⟨s.dict.gen + 1, s.dict.snapshot.1, s.dict.snapshot.2⟩) else f.persist.other c) }
  | .gzStore => s.onFlash fun f => { f with gzStore := f.gzStore.store c ok (if fresh then some (Sealed.of gzValue (s.zones.map Zone.gz)) else f.gzStore.other c) }
  | .defectMap => s.onFlash fun f => { f with defects := f.defects.store c ok (if fresh then some s.defects else f.defects.other c) }
  | .gpTable => s.onFlash fun f => { f with gp := f.gp.store c ok (if fresh then some s.gpEntries else f.gp.other c) }
  | .storeHeader => s.onFlash fun f => { f with header := f.header.store c ok (if fresh then some (calRead s.chk.cal 0x148000 4096) else f.header.other c) }
  | .surface0 => s.onFlash fun f => { f with surface0 := f.surface0.store c ok (if fresh then some (memRead s.surf.mem 0 65536) else f.surface0.other c) }
  | .parkImage => s.onFlash fun f => { f with parkImage := f.parkImage.store c ok (if fresh then some (Sealed.of parkValue s.parkContent) else f.parkImage.other c) }
  | .crossList => s.onFlash fun f => { f with crossList := f.crossList.store c ok (if fresh then some s.flt.cross else f.crossList.other c) }
  | .keys => s.onFlash fun f => { f with keys := f.keys.store c ok (if fresh then some (s.flash.kInt, s.flash.kSvc) else f.keys.other c) }
  | .fbImage i =>
    let put := fun (d : Dup FbImage) => d.store c ok (if fresh then s.flash.newImage i.val else d.other c)
    s.onFlash fun f => { f with fbImages := f.fbImages.modify i.val put }
  | .zone z =>
    let put := fun (d : Dup (List Byte)) => d.store c ok (if fresh then some (s.zoneRec z.val) else d.other c)
    s.onFlash fun f => { f with zoneRecs := f.zoneRecs.modify z.val put }
  | .slotA => s.onRally fun y => { y with slotA := y.slotA.putCopy c ok fresh }
  | .slotB => s.onRally fun y => { y with slotB := y.slotB.putCopy c ok fresh }
  | .canAddrLast => s.onFlash fun f => { f with addrLast := f.addrLast.store c ok (if fresh then s.vex.addr else f.addrLast.other c) }
  | .unlockCount => s.onFlash fun f => { f with unlocks := f.unlocks.store c ok (if fresh then some f.unlockCount else f.unlocks.other c) }
  | .severities => s.onFlash fun f => { f with severityRecs := f.severityRecs.store c ok (if fresh then some f.severities else f.severityRecs.other c) }

/-- Whether a copy of a record is to be rewritten from the other (R281). -/
def State.copyStale (s : State) (r : RecordId) (c : CopyId) : Bool :=
  match r with
  | .persist => s.flash.persisted.stale c (fun a b => decide (a.gen < b.gen))
  | .gzStore => s.flash.gz.stale c (fun _ _ => false)
  | .defectMap => s.flash.defects.stale c (fun _ _ => false)
  | .gpTable => s.flash.gp.stale c (fun _ _ => false)
  | .storeHeader => s.flash.header.stale c (fun _ _ => false)
  | .surface0 => s.flash.surface0.stale c (fun _ _ => false)
  | .parkImage => s.flash.park.stale c (fun _ _ => false)
  | .crossList => s.flash.crossList.stale c (fun _ _ => false)
  | .keys => s.flash.keys.stale c (fun _ _ => false)
  | .fbImage i => match s.flash.fbImages[i.val]? with
    | some d => d.stale c (fun a b => decide (a.gen < b.gen))
    | none => false
  | .zone z => match s.flash.zoneRecs[z.val]? with
    | some d => d.stale c (fun _ _ => false)
    | none => false
  | .slotA => s.rally.slotA.recorded.stale c (fun _ _ => false)
  | .slotB => s.rally.slotB.recorded.stale c (fun _ _ => false)
  | .canAddrLast => s.flash.addrLast.stale c (fun _ _ => false)
  | .unlockCount => s.flash.unlocks.stale c (fun _ _ => false)
  | .severities => s.flash.severityRecs.stale c (fun _ _ => false)

/-! ### A commit of PERSIST (R314) -/

/-- Whether an object is RWP (Table 15-2). -/
def isRwp (key : Nat) : Bool :=
  match objFind (key / 256) (key % 256) with
  | some o => o.acc == ObjAccess.rwp
  | none => false

/-- One object laid over scalar and DOMAIN values from others: a value at its default is not listed. -/
def overlayKey (src c : List (Nat × Nat) × List (Nat × List Byte)) (k : Nat) : List (Nat × Nat) × List (Nat × List Byte) :=
  (match kvGet src.1 k with | some v => kvSet c.1 k v | none => kvDel c.1 k,
    match kvGet src.2 k with | some v => kvSet c.2 k v | none => kvDel c.2 k)

/-- What a commit of PERSIST writes: the content committed last, with the working values of the objects changed since (R314). -/
def State.commitContent (s : State) : List (Nat × Nat) × List (Nat × List Byte) :=
  let base := match s.flash.persisted.newest PersistRecord.gen with
    | some v => (v.vals, v.doms)
    | none => ([], [])
  s.dict.dirty.foldl (overlayKey (s.dict.vals, s.dict.doms)) base

/-- A commit of PERSIST starts with the changed values, or with the defaults after RESTORE_DEFAULTS (R314). Values changed since
RESTORE_DEFAULTS go to the next commit. -/
def State.beginCommit (s : State) : State :=
  let s1 := s.onDict fun d =>
    if d.restoring then { d with committing := true, restoring := false, commitKeys := none, snapshot := ([], []) }
    else { d with
      committing := true, commitAgain := false, storeDue := false, dirty := [], dirtySince := none, commitKeys := some d.dirty,
      snapshot := s.commitContent }
  s1.writeDue 0

/-- A commit starts, as soon as one in progress completes (R314). -/
def State.requestCommit (s : State) : State :=
  if s.dict.committing then s.onDict fun d => { d with commitAgain := true } else s.beginCommit

/-- The next step of a transition is the entry to PARK (R351, R354). -/
def State.nextIsPark (s : State) : Bool :=
  match s.pwr.trans with
  | some t => t.steps.head? == some DevState.park
  | none => false

/-- On the way to PARK, the PARK image is written once PERSIST has committed (R354). -/
def State.afterCommit (s : State) : State := if s.nextIsPark && !s.dict.committing then s.writeDue 6 else s

/-- The commit that waits for the one in progress starts: RESTORE_DEFAULTS first (R314). -/
def State.nextCommit (s : State) : State := if s.dict.restoring || s.dict.commitAgain then s.beginCommit else s.afterCommit

/-- A commit of PERSIST has completed (R314): GEN counts it, and one that waits starts. -/
def State.commitDone (s : State) : State :=
  (s.onDict fun d => { d with committing := false, gen := inc32 d.gen 1, lastCommit := some s.now }).nextCommit

/-- A commit of PERSIST has ended with a copy that could not be written: it is not complete (R281), so that what it was for is dirty again,
or the defaults are still to be written; RESTORE_DEFAULTS that waits supersedes it, and so does a reset that waits for it (R314, R370, log 39). -/
def State.commitFailed (s : State) : State :=
  let s1 := s.onDict fun d => { d with committing := false }
  if s.pwr.resetDue then s1.nextCommit
  else match s.dict.commitKeys with
    | none => if s.dict.restoring then s1.beginCommit else (s1.onDict fun d => { d with restoring := true }).afterCommit
    | some ks =>
      if s.dict.restoring then s1.beginCommit
      else (s1.onDict fun d => { d with
        dirty := ks.foldl setAdd d.dirty, dirtySince := if ks.isEmpty then d.dirtySince else some (d.dirtySince.getD s.now) }).nextCommit

/-- The PARK image has been written: SLEEP_GO is scheduled (R362). -/
def State.parkImageDone (s : State) : State := if s.nextIsPark then s.onPwr fun p => { p with sleepDue := true } else s

/-! ### A record written -/

/-- Whether both copies hold a content. -/
def Dup.holds {α : Type} [DecidableEq α] (d : Dup α) (v : α) : Bool := decide (d.a.content = some v) && decide (d.b.content = some v)

/-- Whether both copies of a record that a service write stores hold what that write brought (R315). -/
def State.storedWhole (s : State) (r : RecordId) : Bool :=
  match r with
  | .gpTable => s.flash.gp.holds s.gpEntries
  | .defectMap => s.flash.defects.holds s.defects
  | .zone z => (s.flash.zoneRecs[z.val]?).any fun d => d.holds (s.zoneRec z.val)
  | .fbImage i => match s.flash.fbImages[i.val]?, s.flash.newImage i.val with
    | some d, some m => d.holds m
    | _, _ => false
  | _ => false

/-- Both copies of a record have verified: a service write of it is pending no more (R315). -/
def State.stored (s : State) (r : RecordId) : State :=
  s.onFlash fun f => { f with
    storing := setDel f.storing (recordCode r)
    fbNew := match r with
      | .fbImage i => kvDel f.fbNew i.val
      | _ => f.fbNew }

/-- What the completion of a write brings with it (R173, R288, R314, R315). -/
def State.recordDone (s : State) (r : RecordId) : State :=
  let s1 := (s.stored r).onFlash fun f => { f with
    due := setDel f.due (recordCode r), aDone := setDel f.aDone (recordCode r),
    failedOnce := setDel (setDel f.failedOnce (2 * recordCode r)) (2 * recordCode r + 1) }
  match r with
  | .persist => s1.commitDone
  | .gzStore =>
    let l := s1.flash.gz.value.getD []
    s1.onZones fun i z => { z with stored := l.getD i z.stored }
  | .canAddrLast => s1.onFlash fun f => { f with canAddrLast := s.vex.addr }
  | .parkImage => s1.parkImageDone
  | _ => s1

/-- EV118 STORE_CHECK_LASTING of a record. -/
def State.raiseStoreLasting (s : State) (code : Nat) : State :=
  let (d, s1) := s.recordItem code
  s1.raise { ev := 118, data := d, lasting := true, check := chkStored }

/-- A copy whose write fails its check is written once more in the next erase block; a second failure leaves the record with one
good copy and raises EV118 (R281). The write that was due ends; what reports it keeps it PENDING until its copies hold it (R315). -/
def State.copyFailed (s : State) (r : RecordId) (c : CopyId) : State :=
  let code := recordCode r
  let id := 2 * code + (match c with | .a => 0 | .b => 1)
  if s.flash.failedOnce.contains id then
    let s1 := s.onFlash fun f => { f with
      due := setDel f.due code, aDone := setDel f.aDone code, failedOnce := setDel f.failedOnce id }
    let s2 := s1.raiseStoreLasting code
    if code = 0 then s2.commitFailed
    else if code = 6 then s2.parkImageDone else s2
  else s.onFlash fun f => { f with failedOnce := setAdd f.failedOnce id }

/-- One copy of a record has been written and read back (R281): copy A of a write that is due, then copy B of it; or a copy that is
rewritten from the other. -/
def State.writeCopy (s : State) (r : RecordId) (c : CopyId) (ok : Bool) : State :=
  let code := recordCode r
  let due := s.flash.due.contains code
  let aDone := s.flash.aDone.contains code
  if due && !aDone && c == .a then
    let s1 := s.storeCopy r .a ok true
    if ok then s1.onFlash fun f => { f with aDone := setAdd f.aDone code, failedOnce := setDel f.failedOnce (2 * code) } else s1.copyFailed r .a
  else if due && aDone && c == .b then
    let s1 := s.storeCopy r .b ok false
    if ok then s1.recordDone r else s1.copyFailed r .b
  else if !due && s.copyStale r c then
    let s1 := s.storeCopy r c ok false
    if ok then
      let s2 := s1.onFlash fun f => { f with failedOnce := setDel (setDel f.failedOnce (2 * code)) (2 * code + 1) }
      if s2.storedWhole r then s2.stored r else s2
    else s1.copyFailed r c
  else s

/-! ### Copies that passed their second look (R280, R281) -/

/-- The first 64 bytes of a fallback image record (Table 10-6), of its data. -/
def FbImage.head (m : FbImage) (i : Nat) (data : List Byte) : List Byte :=
  sealed (u32 0x4642494D ++ u16 1 ++ u8 i ++ u8 m.roleMask ++ u32 m.gen ++ u32 (crc32c data) ++ List.replicate 44 0)

/-- A fallback image record (Table 10-6); the empty data stands for 65,536 bytes of 0. -/
def FbImage.bytes (m : FbImage) (i : Nat) : List Byte :=
  let data := if m.data.isEmpty then List.replicate 65536 0 else m.data
  m.head i data ++ data

/-- The check value that a copy of a record holds: the seal that stands beside its content or in it, or the check value of the Gp table or of
the defect map (R45, R278); none of the records whose check the spec does not lay out. -/
def State.copySeal (s : State) (r : RecordId) (c : CopyId) : Option Nat :=
  match r with
  | .defectMap => some s.chk.defectSeal
  | .gpTable => some (field (calRead s.chk.cal 0x148018 4) 0 4)
  | .storeHeader => ((s.flash.header.copy c).content).map fun b => field (if b.isEmpty then factoryHeader else b) 4092 4
  | .zone z => match s.flash.zoneRecs[z.val]? with
    | some d => (d.copy c).content.map fun b => field (if b.isEmpty then factoryZone z.val else b) 60 4
    | none => none
  | .fbImage i => match s.flash.fbImages[i.val]? with
    | some d => (d.copy c).content.map fun m => field (m.bytes i.val) 60 4
    | none => none
  | .persist => ((s.flash.persist.copy c).content).map Sealed.check
  | .gzStore => ((s.flash.gzStore.copy c).content).map Sealed.check
  | .parkImage => ((s.flash.parkImage.copy c).content).map Sealed.check
  | .slotA => ((s.rally.slotA.copies.copy c).content).map Sealed.check
  | .slotB => ((s.rally.slotB.copies.copy c).content).map Sealed.check
  | _ => none

/-- A copy whose check failed its first look as it was read, and passed its second: TRANSIENT, with the two values (R280, R281, R341); its command
judges the storm. What the first look read is free, and so is a check that the spec does not lay out (log 39). -/
def State.rereadCopy (s : State) (r : RecordId) (c : CopyId) : State :=
  let (d, s1) := s.drawUnstated 8
  s1.noteTransient chkStored (match s.copySeal r c with
    | some v => d.take 4 ++ u32 v
    | none => d)

/-- The copies of records, of those that a command reads, that passed their second look only. -/
def State.rereadCopies (s : State) (reads : RecordId → Bool) (l : List (RecordId × CopyId)) : State :=
  (l.filter fun e => reads e.1).foldl (fun s e => s.rereadCopy e.1 e.2) s

/-- The records that hold the images of R214. -/
def RecordId.isImage : RecordId → Bool
  | .fbImage _ => true
  | .surface0 => true
  | _ => false

end Sys2Proof.Machine
end

