-- ==== Sys2Proof/Machine/PacketOps.lean ====
section
/-! DEFINITION. Vexlink packets: the header and its fate (R247 to R252), packet CRC, second look, duplicates and credits (R250, R267
to R269), domains woken by an access (R357), surface traffic (R255, R257 to R259), enumeration (R265, R266), and the output
(R253, R254, R270). -/

namespace Sys2Proof.Machine

open Sys2Proof

/-! ### Domains woken by an access (R357) -/

/-- A domain is powered up on demand (R356). COMP woken so powers the compositor with the compositor held in reset (R357). -/
def State.powerUp (s : State) : Domain → State
  | .link => s.linkUp | .comp => if s.pwr.comp then s else s.compUp.onComp fun c => { c with inReset := true }
  | .scan => s.scanUp
  | .emit => s.emitUp
  | .aux => s.auxUp

/-- An access that needs a domain which is off powers it up; it stays on demand (R357). -/
def State.wake (s : State) (d : Domain) : State :=
  if s.powered d then s else (s.powerUp d).onPwr fun p => { p with onDemand := enumAdd p.onDemand d }

/-! ### Headers (R247 to R252) -/

/-- A packet header (Table 12-1). -/
structure VxHeader where
  dst   : Nat
  src   : Nat
  type  : Nat
  flags : Nat
  seq   : Nat
  len   : Nat
  tag   : Nat
  epoch : Nat
  hops  : Nat
  hcrc  : Nat
  deriving DecidableEq, Repr

/-- The fields of a header's 16 bytes. -/
def parseHeader (b : List Byte) : VxHeader :=
  { dst := field b 0 1, src := field b 1 1, type := field b 2 1, flags := field b 3 1, seq := field b 4 2, len := field b 6 2,
    tag := field b 8 4, epoch := field b 12 1, hops := field b 13 1, hcrc := field b 14 2 }

/-- HCRC of a header: header bytes 0 to 13 with byte 13 taken as 0 (R249). -/
def headerCrc (b : List Byte) : Nat := crc16 (b.take 13 ++ [0])

/-- KIND of a header. -/
def VxHeader.kind (h : VxHeader) : Nat := bits h.dst 6 2

/-- Whether a header is of a broadcast. -/
def VxHeader.bro (h : VxHeader) : Bool := h.kind == 1

/-- NEED_ACK. -/
def VxHeader.needAck (h : VxHeader) : Bool := bitOf h.flags 0

/-- RETRY. -/
def VxHeader.retry (h : VxHeader) : Bool := bitOf h.flags 1

/-- LAST. -/
def VxHeader.last (h : VxHeader) : Bool := bitOf h.flags 2

/-- What a module does with a packet (Table 12-3). -/
inductive Fate where
  | headerError | loop | enum | forward | consume | both
  deriving DecidableEq, Repr

/-- Whether row 1 of Table 12-3 discards a header. -/
def headerBad (b : List Byte) : Bool :=
  let h := parseHeader b
  b.length != 16 || headerCrc b != h.hcrc || decide (4096 < h.len) || h.len % 4 != 0 || h.kind == 3 || decide (2 ≤ bits h.src 6 2) ||
    decide (8 ≤ h.flags)

/-- Whether a header is of an ENUM from the host. -/
def VxHeader.hostEnum (h : VxHeader) : Bool := h.type == 0x40 && bits h.src 6 2 == 1

/-- The first row of Table 12-3 that matches a header (R251). -/
def State.fate (s : State) (b : List Byte) : Fate :=
  let h := parseHeader b
  if headerBad b then .headerError
  else if 64 ≤ h.hops then .loop
  else if h.hostEnum then .enum
  else if h.epoch ≠ s.vex.epoch then .forward
  else if h.kind = 0 then (if s.vex.addr = some (bits h.dst 0 6) then .consume else .forward)
  else if h.kind = 1 then .both
  else .forward

/-- A packet is forwarded by cut-through as soon as its header has passed and the output is free (R252, R253). -/
def State.forwardPacket (s : State) (b : List Byte) (ends : PacketEnd) : State := s.onVex fun v => v.forward b ends

/-- Whether packets reach the module: LINK is powered, its receiver is UP, and MGMT runs (R236, R349). -/
def State.receiving (s : State) : Bool := s.pwr.link && s.vex.rx == .up && s.up

/-! ### Consuming a packet (R250, R267 to R269) -/

/-- The packet CRC of a header and payload for the address and epoch that the receiver expects (R250). -/
def packetCrc (dst epoch : Nat) (header payload : List Byte) : Nat :=
  let h := parseHeader header
  crc crc32cParams (u8 dst ++ u8 epoch ++ u16 h.seq) (header.take 13 ++ [0] ++ (header.drop 14).take 2 ++ payload)

/-- The epoch of a packet: an ENUM carries its own, any other has the one in force (R250, R266). -/
def State.packetEpoch (s : State) (h : VxHeader) : Nat := if h.hostEnum then h.epoch else s.vex.epoch

/-- The packet CRC that this module forms of a packet (R250). -/
def State.packetValue (s : State) (p : VxPacket) : Nat :=
  let h := parseHeader p.header
  packetCrc (if h.bro then 0x7F else s.vex.addr.getD 0xFF) (s.packetEpoch h) p.header p.payload

/-- Whether a packet passes its check at this module (R250, R268). -/
def State.packetPasses (s : State) (p : VxPacket) : Bool :=
  !p.aborted && p.payload.length == (parseHeader p.header).len && s.packetValue p == p.crc

/-- Whether a pending second look is that of a packet: of its window, epoch and SEQ (R268, R269). -/
def State.lookOf (s : State) (h : VxHeader) (e : Bool × Nat × Nat × Nat) : Bool :=
  e.1 == h.bro && e.2.1 == s.packetEpoch h && e.2.2.1 == h.seq

/-- The pending second look of a packet, with the value of its first look (R268). -/
def State.packetLook (s : State) (h : VxHeader) : Option Nat := (s.vex.crcLooks.find? (s.lookOf h)).map fun e => e.2.2.2

/-- A pending second look of a packet has been judged (R268). -/
def State.dropLook (s : State) (h : VxHeader) : State := s.onVex fun v => { v with crcLooks := v.crcLooks.filter fun e => !s.lookOf h e }

/-- Units of the receive buffer in use (R267). -/
def State.rxUnits (s : State) : Nat := sumNat (s.surf.waiting.map Waiting.units)

/-- The NAK of a packet that failed its check. The packet was not accepted, so this is no answer that a duplicate is given (R268, R269). -/
def State.nakCheck (s : State) (h : VxHeader) (code : Nat) : State := s.sendOwn ⟨0x41, 0, 0, ackPayload h.seq h.type code 0⟩

/-- A failed packet check (R268): the first look is answered NAK CRC, a second look that fails is LASTING. A packet without RETRY is a new
first look. -/
def State.packetFailed (s : State) (p : VxPacket) : State :=
  let h := parseHeader p.header
  if h.retry && (s.packetLook h).isSome then
    let s1 := (s.dropLook h).onVex fun v => { v with crcLasting := inc32 v.crcLasting 1 }
    (s1.raise { ev := 98, data := u16 h.seq ++ u8 h.type, lasting := true, check := chkPacketCrc }).nakCheck h 2
  else
    ((s.dropLook h).onVex fun v => { v with
      crcLooks := v.crcLooks ++ [(h.bro, s.packetEpoch h, h.seq, s.packetValue p)], crcFirst := inc32 v.crcFirst 1 }).nakCheck h 1

/-- A second look that passes is TRANSIENT (R197): counted and logged with the two looks' values (R341), its storm judged (R199, R337), and it
also raises EV097 (R268, R338) at its EV_SEVERITY, whose default is 0: Table 17-2 names no fixed case for it (R336, log 25). -/
def State.packetTransient (s : State) (p : VxPacket) : State :=
  let h := parseHeader p.header
  match h.retry, s.packetLook h with
  | true, some first =>
    let s1 := (s.dropLook h).onVex fun v => { v with crcTransient := inc32 v.crcTransient 1 }
    (s1.transient chkPacketCrc (u32 first ++ u32 (s.packetValue p))).raise
      { ev := 97, data := u16 h.seq ++ u8 h.type, check := chkPacketCrc }
  | _, _ => s

/-- A SEQ is accepted into its window of 64; answers whose SEQ has left its window are no longer kept (R269). A SEQ that is accepted
anew has no answer yet. -/
def State.acceptSeq (s : State) (bro : Bool) (seq : Nat) : State :=
  let put := fun (l : List Nat) => (l ++ [seq]).drop (l.length + 1 - 64)
  s.onVex fun v =>
    let w := if bro then { v with dupBro := put v.dupBro } else { v with dupUni := put v.dupUni }
    { w with answers := v.answers.filter fun a => (w.window a.1).contains a.2.1 && !(a.1 == bro && a.2.1 == seq) }

/-- Whether a packet is a duplicate (R269). -/
def State.duplicate (s : State) (h : VxHeader) : Bool :=
  h.retry && (s.vex.window h.bro).contains h.seq

/-- A duplicate is discarded; with NEED_ACK the original answer is sent again (R269). -/
def State.answerDuplicate (s : State) (h : VxHeader) : State :=
  let s1 := s.onVex fun v => { v with duplicates := inc32 v.duplicates 1 }
  match h.needAck, s.vex.answers.find? fun a => a.1 == h.bro && a.2.1 == h.seq with
  | true, some a => s1.sendOwn a.2.2
  | _, _ => s1

/-- Whether a type is credited (Table 12-4). -/
def creditedType (type : Nat) : Bool := [0x01, 0x02, 0x10, 0x11, 0x30].contains type

/-- A packet of a type that this module consumes is processed: its check (R268), its duplicate (R269), the room for it (R267), host
presence (R220), and then its meaning, which releases the units it is given. -/
def State.consume (s : State) (p : VxPacket) (ofType : Nat → Bool) (body : State → VxHeader → Nat → State) : State :=
  let h := parseHeader p.header
  let fate := s.fate p.header
  if !s.receiving || !ofType h.type || !(fate == .consume || fate == .both) then s
  else
    let units := if creditedType h.type then unitsOf h.len else 0
    if !s.packetPasses p then (s.packetFailed p).release units
    else
      let s1 := s.packetTransient p
      if s1.duplicate h then (s1.answerDuplicate h).release units
      else if 256 < s1.rxUnits + units then
        ((s1.onVex fun v => { v with noCredit := inc32 v.noCredit 1 }).nak h.bro h.seq h.type 7 0).release units
      else body ((s1.acceptSeq h.bro h.seq).hostPacket) h units

/-! ### Surface traffic (R255, R257 to R259) -/

/-- Whether a write of bytes completes the fill of a TRANSFER surface once what waits for that surface has been applied before it
(R101). -/
def State.completesFill (s : State) (n off : Nat) (data : List Byte) : Bool :=
  let u := (s.surfAfter n).applyHeld (.bytes n off data false none (off, data.length))
  u.surfPar n K.surfVerify == 1 && (u.surface n).phase == .valid

/-- A checked write of bytes to a surface: acknowledged as R258 and R264 say (at once, but for a closing write and for one that
completes a TRANSFER fill), applied or held, or waiting in the receive buffer with its units (R99). -/
def State.surfPacket (s : State) (h : VxHeader) (units n off : Nat) (data : List Byte) : State :=
  let mark := some (h.bro, h.seq, h.type)
  let transfer := s.surfNext n K.surfVerify == 1
  let closing := !transfer && h.last
  let later := h.needAck && (closing || transfer && s.completesFill n off data)
  let s1 := if later then s else s.ack h.needAck h.bro h.seq h.type 0 0
  let item := Held.bytes n off data closing (if later then mark else none) (off, data.length)
  match s1.enter (s1.waitsFor n) item with
  | some s2 => s2.release units
  | none => s1.waitFor ⟨item, units, .packet none⟩

/-- Whether a write range of a surface is refused (R98, R101). -/
def State.rangeRefused (s : State) (n off len : Nat) : Bool :=
  let size := s.surfPar n K.surfSize
  decide (63 < n) || size == 0 || decide (size < off + len) || s.rowsRefused n off len

/-- Surface 0 is written at SERVICE only (R94, R255). -/
def State.surfLevelRefused (s : State) (n : Nat) : Bool := n == 0 && s.mgmt.vexlink.level != .service

/-- A SURF_WRITE (R258), judged against its surface as what is held for it leaves it (log 42). -/
def State.surfWrite (s0 : State) (h : VxHeader) (units : Nat) (p : List Byte) : State :=
  let s := s0.wake .comp
  let n := field p 0 1
  let pad := field p 1 1
  let data := (p.drop 4).take (p.length - 4 - pad)
  if s.surfLevelRefused n then (s.nak h.bro h.seq h.type 10 2).release units
  else if p.length < 4 + pad ∨ 3 < pad ∨ field p 2 2 ≠ 0 ∨ (s.surfAfter n).rangeRefused n h.tag data.length then
    (s.nak h.bro h.seq h.type 5 0).release units
  else s.surfPacket h units n h.tag data

/-- A BEAM_LINE (R257), judged likewise. -/
def State.beamLine (s0 : State) (h : VxHeader) (units : Nat) (p : List Byte) : State :=
  let s := s0.wake .comp
  let n := bits h.tag 16 8
  let rows := bits h.tag 24 8
  let row := bits h.tag 0 16
  let u := s.surfAfter n
  let pitch := u.surfPitch n
  if s.surfLevelRefused n then (s.nak h.bro h.seq h.type 10 2).release units
  else if 63 < n ∨ rows = 0 ∨ u.surfPar n K.surfHeight < row + rows ∨ p.length ≠ rows * pitch ∨ u.surfIsPtc n ∨
      u.rangeRefused n (row * pitch) p.length then (s.nak h.bro h.seq h.type 5 0).release units
  else s.surfPacket h units n (row * pitch) p

/-- A SURF_READ (R259): a segmented delivery of the stored bytes. -/
def State.surfReadPacket (s0 : State) (h : VxHeader) (units : Nat) (p : List Byte) : State :=
  let s := (s0.wake .comp).release units
  let n := field p 0 1
  let len := field p 4 4
  if p.length ≠ 8 ∨ 63 < n ∨ field p 1 3 ≠ 0 ∨ len = 0 ∨ s.surfPar n K.surfSize < h.tag + len then s.nak h.bro h.seq h.type 5 0
  else (s.ack h.needAck h.bro h.seq h.type 0 0).deliver 0x03 n h.seq h.tag (s.surfRead n h.tag len)

/-! ### Commits (R255, R256, R330) -/

/-- A COMMIT: refused outside READY, LIT and FALLBACK and while Campion is on, refused whole where it is invalid, else validated and
waiting to be bound. In FALLBACK it is coalesced in the pending slot and answered at its validation, after those that still wait
(R18, R264). -/
def State.commitPacket (s0 : State) (h : VxHeader) (units : Nat) (p : List Byte) : State :=
  let s := s0.release units
  if s.comp.campionOn then (s.onComp fun c => { c with refusedNative := inc32 c.refusedNative 1 }).nak h.bro h.seq h.type 4 0
  else if s.pwr.dev ≠ .ready ∧ s.pwr.dev ≠ .lit ∧ s.pwr.dev ≠ .fallback then s.nak h.bro h.seq h.type 4 0
  else match parseCommit p with
    | .error off => (s.raise { ev := 20, data := u32 h.tag ++ u32 off ++ u8 1 }).nak h.bro h.seq h.type 3 off
    | .ok (ls, bs, ss) =>
      let c : Commit := ⟨h.tag, ls, bs, ss, false, .vexlink h.seq h.needAck h.bro, 0⟩
      if s.pwr.dev == .fallback then
        (s.tim.toBind ++ [c]).foldl State.bindCommit (s.onTim fun t => { t with toBind := [] })
      else s.onTim fun t => { t with toBind := t.toBind ++ [c] }

/-! ### Enumeration (R265, R266, R288) -/

/-- A slot of flash (R386). -/
def State.slotOfBank (s : State) (b : Bool) : Slot := if b then s.rally.slotB else s.rally.slotA

/-- VERSION in a slot record; 0 for an empty slot (R394). The factory's slot record stands as the empty string. -/
def Slot.version (y : Slot) : Nat :=
  if y.state == .empty then 0 else if y.header.isEmpty then Config.fwVersion else field y.header 8 4

/-- FW_VERSION: the version of the running image. -/
def State.fwVersion (s : State) : Nat := (s.slotOfBank s.rally.bankB).version

/-- SERIAL of the store header (Table 2-11). -/
def State.serial (s : State) : List Byte := calRead s.chk.cal 0x148008 16

/-- The payload of an ENUM reply (Table 12-9). -/
def State.enumReply (s : State) (addr : Nat) : List Byte :=
  u8 addr ++ u8 s.pwr.role ++ u8 s.pwr.dev.num ++ u8 s.flt.health ++ u16 256 ++ u8 (4 * s.par K.vxWidth + s.par K.vxRate) ++ u8 0 ++
    s.serial ++ u32 s.fwVersion ++ u32 0

/-- Under AUTO the CAN address follows the ring address, which is stored as CAN_ADDR_LAST (R288). -/
def State.autoAddr (s : State) (addr : Nat) : State :=
  if s.par K.canAddr = 0xFF then (s.onCan fun c => { c with newAddr := some addr }).writeDue 15 else s

/-- The steps of R266 for an ENUM with HOPS `hops`, but for its forwarding. -/
def State.enumerate (s : State) (hops epoch nonce : Nat) : State :=
  let s1 := s.onVex fun v => { v with
    addr := some hops, epoch := epoch, seq := 0, dupUni := [], dupBro := [], crcLooks := [], answers := [], crTotal := 256,
    lossSeen := false, retx := v.retx.map fun r => { r with addr := hops, epoch := epoch } }
  (s1.autoAddr hops).sendOwn ⟨0x40, 0, nonce, s1.enumReply hops⟩

/-- An ENUM from the host (R230, R251, R266, R388): forwarded, with K30.7 where its upstream ends without EOP; one whose link is lost is
discarded (R239); and during a hand-over one is latched. -/
def State.enumPacket (s : State) (p : VxPacket) (ends : PacketEnd) : State :=
  let h := parseHeader p.header
  if !s.receiving || s.fate p.header != .enum then s
  else
    let s1 := s.forwardPacket p.header (if p.aborted && ends == .eop then .k30_7 else ends)
    if ends == .lost then s1
    else if ends != .eop || !s.packetPasses p then s1.packetFailed p
    else
      let s2 := (s1.packetTransient p).hostPacket
      if s2.rally.phase == .handover then s2.onRally fun r => { r with enumLatched := some (h.hops, h.epoch, h.tag) }
      else s2.enumerate h.hops h.epoch h.tag

/-! ### The output (R253, R254, R270) -/

/-- A NAK from the host: the packet of the epoch in force that it names is sent again once, with RETRY set (R270). -/
def State.hostNak (s : State) (p : List Byte) : State :=
  match s.vex.copies.find? fun c => c.1.seq == field p 0 2 && c.1.epoch == s.vex.epoch && !c.2 with
  | none => s
  | some c => s.onVex fun v => { v with
      copies := v.copies.map fun d => if d = c then (d.1, true) else d, retx := v.retx ++ [{ c.1 with retry := true }] }

/-- A read of LOG_RECORDS over Vexlink completes when the final segment of its PARAM_RESP has been sent (R347). -/
def State.logReadSent (s : State) (p : OwnPacket) : State :=
  let last := p.type == 0x31 && bitOf p.flags 2 && field p.payload 0 1 == 0x12 &&
    objKey (field p.payload 2 2) (field p.payload 4 1) == K.logRecordsObj
  match last, s.mgmt.logReads.find? fun e => e.1 == .vexlink && e.2.1 == field p.payload 1 1 with
  | true, some e => s.onMgmt fun m => { m with logReads := m.logReads.erase e, vexlink := { m.vexlink with logIndex := e.2.2 } }
  | _, _ => s

/-- The 14 header bytes that HCRC covers, of a packet that a module sends: host-bound, HOPS 0 (R247, R248). -/
def SentPacket.head (p : SentPacket) : List Byte :=
  u8 0x80 ++ u8 p.addr ++ u8 p.packet.type ++ u8 (p.packet.flags + if p.retry then 2 else 0) ++ u16 p.seq ++
    u16 p.packet.payload.length ++ u32 p.packet.tag ++ u8 p.epoch ++ u8 0

/-- The 16 header bytes of a packet that a module sends (R247, R249). -/
def SentPacket.header (p : SentPacket) : List Byte := p.head ++ u16 (headerCrc p.head)

/-- A packet that a module sends as it leaves: header, payload and packet CRC, folded from its own header (R247, R250). -/
def SentPacket.wire (p : SentPacket) : VxPacket :=
  ⟨p.header, p.packet.payload, packetCrc 0x80 p.epoch p.header p.packet.payload, false⟩

/-- The module's next own packet leaves: a retransmission first, else what has waited longest, with the next SEQ, kept among the last 8
copies. A delivery stays first until its last segment has left, so its segments have consecutive SEQ values (R248, R253, R254, R260,
R270). -/
def State.sendNext (s : State) (addr : Nat) : State :=
  match s.vex.retx, s.vex.own with
  | r :: rest, _ => s.onVex fun v => { v with retx := rest, out := .packet r.wire :: v.out, sending := .ownPacket }
  | [], x :: rest =>
    let p := (x.form s.vex.evSince).1
    let sent : SentPacket := ⟨s.vex.seq, addr, s.vex.epoch, false, p⟩
    let s1 := s.onVex fun v => { v with
      own := (x.form s.vex.evSince).2.toList ++ rest, evSince := if x.isEvent then 0 else v.evSince
      seq := (v.seq + 1) % 65536, out := .packet sent.wire :: v.out, sending := .ownPacket
      copies := (v.copies ++ [(sent, false)]).drop (v.copies.length + 1 - 8) }
    s1.logReadSent p
  | [], [] => s

end Sys2Proof.Machine
end

