-- ==== Sys2Proof/Machine/ScanOps.lean ====
section
/-! DEFINITION. The memory scan engine's results: surface verification (R100 to R102), scrub (R103, R278, R280), the seal of a
TRANSFER-mode surface (R101), and the host CRC service (R276, R283). -/

namespace Sys2Proof.Machine

open Sys2Proof

/-- A region as the engine read it: its bytes, but for those it misread, by offset in the region. -/
def misread (bs : List Byte) (mis : List (Nat × Byte)) : List Byte := mis.foldl (fun l e => l.set e.1 e.2) bs

/-! ### Flash content with the factory's (R45) -/

/-- The zone record of zone `z` in flash, where a copy is good. -/
def State.flashZone (s : State) (z : Nat) : Option (List Byte) :=
  match s.flash.zoneRecs[z]? with
  | some d => d.value.map fun bs => if bs.isEmpty then factoryZone z else bs
  | none => none

/-- The store header in flash, where a copy is good. -/
def State.flashHeader (s : State) : Option (List Byte) := s.flash.header.value.map fun bs => if bs.isEmpty then factoryHeader else bs

/-- The record that a zone without a good copy takes (R44): IREF 40, GZ 1.0000, CAL_VALID 0; its other fields are not stated: free
bytes (log 8). -/
def State.substituteZone (s : State) (z : Nat) : List Byte :=
  sealed (padTo 60 (u16 z ++ u8 40 ++ u8 0 ++ u16 16384 ++ (upTo 18).map fun i => Config.unstatedByte s.free (32 * z + i)))

/-- The store header that a module without a good copy takes; the spec states no substitute: free bytes (log 8). -/
def State.substituteHeader (s : State) : List Byte :=
  sealed (padTo 4092 (u32 0x43414C31 ++ u16 1 ++ (upTo 30).map fun i => Config.unstatedByte s.free (16384 + i)))

/-- The Gp part of a calibration store with listed values: every other pixel has g 128. -/
def putGp (cal : List Host.Cell) (l : List (Nat × Nat)) : List Host.Cell :=
  l.foldl (fun m e => calWrite m e.1 (u8 e.2)) (memClear cal 0 0x100000)

/-- The defect part of a calibration store with listed codes: every other pixel is GOOD. -/
def putDefects (cal : List Host.Cell) (l : List (Nat × Nat)) : List Host.Cell :=
  l.foldl (fun m e => setDefect m e.1 e.2) (memClear cal 0x100000 0x40000)

/-- The factory defect map, checked against CRC_DEFECT_FACTORY of the store header (R282). The spec states no substitute for one that
fails: a free map (log 39). -/
def State.factoryMap (s : State) : List (Nat × Nat) :=
  let l := s.flash.factoryDefects
  if defectCrc (putDefects [] l) = field ((s.flashHeader.getD s.substituteHeader).drop 28) 0 4 then l
  else (Config.unstatedMap l.length).map fun e => (e.1 % 1048576, e.2 % 4)

/-! ### Surface verification (R100, R102) -/

/-- The first check of R100 that fails, in its order: none (0), SEAL (1), HEADER (2), INDEX (3), TILE (4). -/
def State.verifyChecks (s : State) (n : Nat) (bs : List Byte) : Nat :=
  let img := bs.toArray
  let fmt := s.surfPar n K.surfFormat
  let w := s.surfPar n K.surfWidth
  let h := s.surfPar n K.surfHeight
  let tiles := upTo (tilesX w * tilesY h)
  if crc32c bs ≠ s.surfPar n K.surfSeal then 1
  else if !s.surfIsPtc n then 0
  else if !ptcHeaderOk img fmt w h then 2
  else if !tiles.all (fun t => ptcEntryOk w h bs.length (ptcEntry img t)) then 3
  else if tiles.any (fun t => (ptcTileAt img fmt w h t).isNone) then 4
  else 0

/-- The value of a check of R100 over the bytes read: SEAL compares a check value, the others compare none (R341). -/
def checkValue (err : Nat) (bs : List Byte) : Option Nat := if err = 1 then some (crc32c bs) else none

/-- The pending second looks of the checks of surface `n` that a predicate selects have passed: TRANSIENT, with the two values where the
check has values (R197, R341); `verified` judges the storm. -/
def State.looksPassed (s : State) (n : Nat) (bs : List Byte) (passed : Nat → Bool) : State :=
  let l := (s.surface n).looks.filter fun e => passed e.1
  let s1 := s.onSurface n fun u => { u with looks := u.looks.filter fun e => !passed e.1 }
  l.foldl (fun s e => s.noteTransient chkSurface (match e.2, checkValue e.1 bs with
    | some first, some now => u32 first ++ u32 now
    | _, _ => [])) s1

/-- A verification succeeds: VALID, a new GEN, SEAL_ACTUAL; surface 0 is then written to flash (R94, R100). -/
def State.verifyPassed (s : State) (n : Nat) (bs : List Byte) : State :=
  let s1 := (s.looksPassed n bs fun _ => true).onSurface n fun u => { u with
    phase := .valid, gen := inc32 u.gen 1, sealActual := crc32c bs, lastError := 0, needsCheck := false }
  (if n = 0 then s1.writeDue 5 else s1).answerVerify n 0

/-- A surface becomes FAULTY with the check that failed: EV019 (R102, R103). -/
def State.surfaceFaulty (s : State) (n err : Nat) : State :=
  let s1 := s.onSurface n fun u => { u with
    phase := .faulty, lastError := err, looks := u.looks.filter fun e => e.1 != err, scrubLook := none, needsCheck := false }
  s1.raise { ev := 19, data := u16 n ++ u8 err, lasting := true, check := chkSurface }

/-- A verification has run its checks over the bytes read (R100, R102): a check that fails its second look is LASTING; a first failure
runs them once more. The looks of the checks before the one that fails have passed; those behind it wait (R198, log 42). -/
def State.verified (s : State) (n : Nat) (bs : List Byte) : State :=
  let err := s.verifyChecks n bs
  let s1 := s.looksPassed n bs fun k => decide (k < err)
  let s2 :=
    if err = 0 then s.verifyPassed n bs
    else if (s.surface n).looks.any fun e => e.1 == err then (s1.surfaceFaulty n err).answerVerify n err
    else (s1.onSurface n fun u => { u with looks := u.looks ++ [(err, checkValue err bs)] }).requestScan ⟨.verify n, 0, s.surfLen n⟩
  s2.judgeStormsSince s.flt.counts

/-- SEAL_ACTUAL of a surface filled in TRANSFER mode has been formed (R101, R258). -/
def State.transferSealed (s : State) (n : Nat) (bs : List Byte) : State :=
  (s.onSurface n fun u => { u with sealActual := crc32c bs }).answerVerify n 0

/-! ### Scrub (R103, R278, R280) -/

/-- The regions of the calibration store in the order of Table 13-3: header, Gp table, zone records, defect map: start and length. -/
def scrubRegion (r : Nat) : Nat × Nat :=
  if r = 0 then (0x148000, 4096) else if r = 1 then (0, 0x100000) else if r < 514 then (0x140000 + 64 * (r - 2), 64) else (0x100000, 0x40000)

/-- The RECORD code of a scrub region (R424). -/
def scrubRecord (r : Nat) : Nat := if r = 0 then 4 else if r = 1 then 3 else if r < 514 then 0x100 + (r - 2) else 2

/-- The check value of a scrub region, with the calibration store as it was read. -/
def scrubValue (r : Nat) (cal : List Host.Cell) : Nat :=
  if r = 0 then crc32c (calRead cal 0x148000 4092)
  else if r = 1 then gpCrc cal
  else if r < 514 then crc32c (calRead cal (0x140000 + 64 * (r - 2)) 60)
  else defectCrc cal

/-- What a scrub region is compared with (Table 13-3). -/
def State.scrubReference (s : State) (r : Nat) (cal : List Host.Cell) : Nat :=
  if r = 0 then field (calRead cal 0x148FFC 4) 0 4
  else if r = 1 then field (calRead s.chk.cal 0x148018 4) 0 4
  else if r < 514 then field (calRead cal (0x140000 + 64 * (r - 2) + 60) 4) 0 4
  else s.chk.defectSeal

/-- Whether a scrub region agrees with its reference (Table 13-3). -/
def State.scrubPasses (s : State) (r : Nat) (cal : List Host.Cell) : Bool := scrubValue r cal == s.scrubReference r cal

/-- Whether the flash record of a scrub region has no good copy (R282). -/
def State.regionLost (s : State) (r : Nat) : Bool :=
  if r = 0 then s.flashHeader.isNone
  else if r = 1 then s.flash.gp.value.isNone
  else if r < 514 then (s.flashZone (r - 2)).isNone
  else s.flash.defects.value.isNone

/-- The calibration store with a region as its flash record gives it, or its substitute where no copy is good (R43 to R45, R282). -/
def State.loadRegion (s : State) (r : Nat) (m : List Host.Cell) : List Host.Cell :=
  if r = 0 then calWrite m 0x148000 (s.flashHeader.getD s.substituteHeader)
  else if r = 1 then putGp m (s.flash.gp.value.getD [])
  else if r < 514 then calWrite m (0x140000 + 64 * (r - 2)) ((s.flashZone (r - 2)).getD (s.substituteZone (r - 2)))
  else putDefects m (s.flash.defects.value.getD s.factoryMap)

/-- A calibration region is loaded again from its flash record, or takes its substitute (R45, R280, R282). -/
def State.reloadRegion (s : State) (r : Nat) : State :=
  let s1 := s.onChk fun c => { c with cal := s.loadRegion r c.cal }
  let s2 := (if 514 ≤ r then s1.sealDefects else s1).onDict fun d => { d with reloads := inc32 d.reloads 1 }
  if s.regionLost r then { s2 with free := s2.free + 1 } else s2

/-- A calibration region has been loaded again after a LASTING result: MOD_HEALTH with its content, the storms since the counts given, EV118, and
EV119 where its flash record has no good copy, in ascending number (R199, R280, R282, R337). -/
def State.regionReport (s : State) (since : List Nat) (lost : Bool) (r : Nat) : State :=
  let s1 := (s.judgeHealth.judgeStormsSince since).raise { ev := 118, data := u16 (scrubRecord r), lasting := true, check := chkStored }
  if lost then s1.raise { ev := 119, data := u16 (scrubRecord r) } else s1

/-- The pass goes on with the next region (R278). -/
def State.nextRegion (s : State) (r : Nat) : State :=
  if r < 514 then
    let g := scrubRegion (r + 1)
    s.requestScan ⟨.scrubCal (r + 1), g.1, g.2⟩
  else s

/-- A region of the calibration store has been scanned (R280), with the store as it was read. `since`: the TRANSIENT counts before it. -/
def State.scrubbedCal (s : State) (since : List Nat) (r : Nat) (cal : List Host.Cell) : State :=
  let v := scrubValue r cal
  let look := (s.chk.looks.find? fun e => e.1 == .scrubCal r).map (·.2)
  let s1 := s.onChk fun c => { c with looks := c.looks.filter fun e => e.1 != .scrubCal r }
  match s.scrubPasses r cal, look with
  | true, none => s.nextRegion r
  | true, some first => (s1.transient chkStored (u32 first ++ u32 v)).nextRegion r
  | false, some _ =>
    (((s1.reloadRegion r).judgeCal).regionReport since (s.regionLost r) r).nextRegion r
  | false, none =>
    let g := scrubRegion r
    (s.onChk fun c => { c with looks := c.looks ++ [(.scrubCal r, v)] }).requestScan ⟨.scrubCal r, g.1, g.2⟩

/-- A VALID surface has been scanned against SEAL_ACTUAL (R103, R109), and its check value read. -/
def State.scrubbedSurf (s : State) (n cv : Nat) : State :=
  let u := s.surface n
  if u.phase ≠ .valid then s
  else if cv = u.sealActual then
    let s1 := match u.scrubLook with
      | some first => s.transient chkSurface (u32 first ++ u32 cv)
      | none => s
    s1.onSurface n fun u => { u with scrubLook := none, needsCheck := false }
  else if u.scrubLook.isSome then s.surfaceFaulty n 5
  else (s.onSurface n fun u => { u with scrubLook := some cv }).requestScan ⟨.scrubSurf n, 0, s.surfLen n⟩

/-! ### Host CRC service (R276, R283) -/

/-- The parameter set that CRCS_CFG names, where it is accepted (R273, Table 13-5). -/
def State.crcsParams (s : State) : Option CrcParams :=
  let cfg := s.par K.crcsCfg
  let custom : CrcParams :=
    ⟨bits cfg 0 6, s.par K.crcsPoly, s.par K.crcsInit, bitOf cfg 19, bitOf cfg 20, s.par K.crcsXorout⟩
  if bits cfg 28 4 = 15 then (if custom.ok then some custom else none) else crcPreset (bits cfg 28 4)

/-- The fold of the service: FOLD_LEN bytes of CRCS_FOLD, filled up with 0 (log 34). -/
def State.crcsFoldBytes (s : State) : List Byte :=
  let n := bits (s.par K.crcsCfg) 24 4
  (padTo n (s.dom K.crcsFold)).take n

/-- The result of a request over an input is reported (R276). -/
def State.crcsReport (s : State) (input : List Byte) : State :=
  match s.crcsParams with
  | none => s.onChk fun c => { c with crcsState := 7 }
  | some p =>
    let cfg := s.par K.crcsCfg
    let r := crcRun p s.crcsFoldBytes (bits cfg 22 2) (bitOf cfg 21) input
    let s1 := s.onChk fun c => { c with crcsState := r.status, crcsCause := 0, crcsCv := r.cv, crcsLen := r.len }
    if bits cfg 22 2 = 1 then s1.putDom K.crcsData r.out else s1

/-- The size of the space that CRCS_SOURCE names (R283). -/
def State.crcsSpace (s : State) : Nat :=
  match s.par K.crcsSource with
  | 1 => s.surfPar (s.par K.crcsSurface) K.surfSize
  | 2 => 1572864
  | _ => 0x200000

/-- The bytes of a host request's region. -/
def State.crcsInput (s : State) (start len : Nat) : List Byte :=
  match s.par K.crcsSource with
  | 1 => s.surfRead (s.par K.crcsSurface) start len
  | 2 => memRead (if s.tim.fs1Displayed then s.tim.bank1 else s.tim.bank0) start len
  | _ => calRead s.chk.cal start len

/-- Whether START is refused, with CRCS_STATUS REFUSED (R283), for a requester at a level. -/
def State.crcsRefused (s : State) (level : Level) : Bool :=
  let source := s.par K.crcsSource
  s.crcsBusy || s.crcsParams.isNone || (source != 0 && (bits (s.par K.crcsCfg) 22 2 == 1 || decide (s.crcsSpace < s.par K.crcsStart + s.par K.crcsLength))) ||
    (source == 3 && level == .user)

/-- A refused START: CRCS_STATUS reads REFUSED until the request that runs, if one does, brings its own status (R283). -/
def State.crcsRefuse (s : State) : State := s.onChk fun c => { c with crcsState := 7, crcsCause := 0 }

/-- START (R283): run at once over CRCS_DATA, or requested of the scan engine, which COMP must be powered for (R357). -/
def State.crcsStart (s : State) : State :=
  if s.par K.crcsSource = 0 then s.crcsReport (s.dom K.crcsData)
  else
    let s1 := (s.wake .comp).onChk fun c => { c with crcsState := 1, crcsCause := 0 }
    s1.requestScan ⟨.host, s.par K.crcsStart, s.par K.crcsLength⟩

/-- ABORT ends a BUSY request, and is ignored otherwise (R283). -/
def State.crcsAbort (s : State) : State :=
  if s.crcsBusy then s.abortHost else s

/-! ### The end of a scan (R277) -/

/-- The scan in progress has ended; the next request starts. -/
def State.endScan (s : State) : State := (s.onChk fun c => { c with scan := none }).startScan

/-- Whether a scan's reload reads a record (R45). -/
def ScanUser.reloads (u : ScanUser) (r : RecordId) : Bool :=
  match u with
  | .scrubCal k => recordCode r == scrubRecord k
  | _ => false

/-- What a scan other than a verification in SEAL mode brings, over the region as read. `since`: the TRANSIENT counts before its command. -/
def State.scanned (s : State) (since : List Nat) (j : ScanJob) (mis : List (Nat × Byte)) : State :=
  match j.user with
  | .verify n => s.transferSealed n (misread (s.surfRead n 0 j.len) mis)
  | .host => s.crcsReport (misread (s.crcsInput j.start j.len) mis)
  | .scrubCal r => s.scrubbedCal since r (mis.foldl (fun (m : List Host.Cell) e => calWrite m (j.start + e.1) [e.2]) s.chk.cal)
  | .scrubSurf n => 
    s.scrubbedSurf n (crc32cMem (mis.foldl (fun (m : List Host.Cell) e => memWrite m (s.surfAddr n + e.1) [e.2]) s.surf.mem) (s.surfAddr n) j.len)

end Sys2Proof.Machine
end

