-- ==== Sys2Proof/Machine/DictRead.lean ====
section
/-! DEFINITION. What a read of each object returns: identity and status scalars, the status layouts of Table 15-34 and of the
chapters it names, the stored DOMAINs, and the values in force of staged objects (R66, R114, R147, R309, R310, R317, R318). -/

namespace Sys2Proof.Machine

open Sys2Proof

/-! ### Access levels (R304) -/

/-- The access state of a transport. -/
def State.access (s : State) : Transport → Access
  | .can => s.mgmt.can | .vexlink => s.mgmt.vexlink | .svc => s.mgmt.svc

/-- `s` with a transport's access state modified. -/
def State.onAccess (s : State) (v : Transport) (f : Access → Access) : State :=
  s.onMgmt fun m => match v with
    | .can => { m with can := f m.can }
    | .vexlink => { m with vexlink := f m.vexlink }
    | .svc => { m with svc := f m.svc }

/-! ### The log as a transport reads it (R346, R347) -/

/-- The records that a read of LOG_RECORDS returns from an index: up to 64 from the first LOG_SEQ at or above it. -/
def State.logFrom (s : State) (index : Nat) : List (Nat × List Byte) := (s.flash.log.filter fun e => decide (index ≤ e.1)).take 64

/-- OLDEST_SEQ and NEWEST_SEQ; the spec states no value for an empty log (log 8). -/
def State.logEnds (s : State) : List Byte :=
  match s.flash.log.head?, s.flash.log.getLast? with
  | some a, some b => u32 a.1 ++ u32 b.1
  | _, _ => (upTo 8).map (Config.unstatedByte s.free)

/-- STATE of LOG_STATUS (R346): ERASING from LOG_CLEAR until its record is written, WRITING while records are queued, else IDLE. -/
def State.logActivity (s : State) : Nat := if s.mgmt.clearRecord.isSome then 2 else b2n (!s.mgmt.logQueue.isEmpty)

/-- LOG_STATUS (R346). -/
def State.logStatus (s : State) : List Byte :=
  s.logEnds ++ u32 s.flash.bootCount ++ u32 s.flash.logWraps ++ u32 s.mgmt.logDropped ++ u32 s.flash.logCorrupt ++
    u32 s.mgmt.logQueue.length ++ u8 s.logActivity ++ [0, 0, 0]

/-! ### Status layouts (Table 15-34) -/

/-- PERSIST_STATUS. -/
def State.persistStatus (s : State) : List Byte :=
  u8 (if s.dict.committing then 2 else if s.dict.dirty.isEmpty && !s.dict.restoring then 0 else 1) ++ [0, 0, 0] ++ u32 s.dict.gen

/-- The number of a layer state. -/
def LayerPhase.num : LayerPhase → Nat
  | .ready => 0 | .holding => 1 | .fallback => 2 | .dropped => 3 | .disabled => 4

/-- LAYER_STATUS of layer `k`: before its first judgement READY where LAYER_ENABLE is 1, else DISABLED (R85). -/
def State.layerStatus (s : State) (k : Nat) : List Byte :=
  let l := s.comp.layers.getD k LayerState.reset
  let phase : LayerPhase := if l.seen then l.phase else if (s.layerBind k).enable then .ready else .disabled
  u8 phase.num ++ u8 l.cause.num ++ u16 0 ++ u32 l.nrCount

/-- The number of a surface state. -/
def SurfPhase.num : SurfPhase → Nat
  | .empty => 0 | .opened => 1 | .verifying => 2 | .valid => 3 | .faulty => 4

/-- SURF_STATUS of surface `n`. -/
def State.surfStatus (s : State) (n : Nat) : List Byte :=
  let u := s.surface n
  u8 u.phase.num ++ u8 u.lastError ++ u8 (b2n u.decodeFault) ++ u8 0 ++ u32 u.decodeTile ++ u32 u.rows.length ++ u32 u.gen ++
    u32 u.sealActual

/-- VLED_STATUS. -/
def State.vledStatus (s : State) : List Byte :=
  let faults := (upTo 6).filter fun k => !(s.sup.phases.getD k Phase.reset).healthy
  u16 s.sup.vset ++ u16 s.sup.vled ++ u8 s.nOk ++ u8 s.phasesOn.length ++ u8 (bitsNat faults) ++ u8 0 ++ u32 s.sup.phaseTransients ++
    u32 s.sup.feTransients

/-- LIMITER_STATUS: the values of the displayed frame (R164). -/
def State.limiterStatus (s : State) : List Byte :=
  let f := s.tim.disp
  u16 f.budget ++ u16 f.peak ++ u16 f.limit ++ u8 f.rule ++ u8 0 ++ u32 f.predictedMw ++ u32 0

/-- ZLOOP_STATUS. -/
def State.zloopStatus (s : State) : List Byte :=
  (s.zones.map fun z => u16 z.rho ++ u8 z.mode ++ u8 0 ++ u16 (z.feTimer / 100000) ++ u16 z.transients).flatten

/-- TD_READINGS. -/
def State.tdReadings (s : State) : List Byte :=
  (s.therm.diodes.map fun d => s16 d.t10 ++ u8 (b2n d.valid + 2 * b2n d.near) ++ u8 0).flatten

/-- REGION_F. -/
def State.regionFs (s : State) : List Byte :=
  ((upTo 17).map fun r => u16 (s.regionF r) ++ u16 ((s.regionBudget r).getD 0)).flatten

/-- FB_STATUS. -/
def State.fbStatus (s : State) : List Byte :=
  u8 s.flt.fbImage ++ u8 (bitsNat (s.flt.fbCauses.map FbCause.num)) ++ u8 (b2n (s.flash.storing.any fun c => decide (8 ≤ c) && decide (c < 12))) ++ u8 0 ++ u32 s.flt.renders ++
    u64 s.flt.lastRender

/-- CAL_STATUS. -/
def State.calStatus (s : State) : List Byte :=
  u8 (b2n (s.flash.storing.contains 3) + 2 * b2n (s.flash.storing.contains 2) + 4 * b2n (s.flash.storing.any (0x100 ≤ ·))) ++ u8 (bitsNat s.dict.substituted) ++
    u16 ((upTo 512).filter fun z => !s.calValid z).length ++ u32 s.dict.reloads

/-- SENSE_STATE. -/
def State.senseStatus (s : State) : List Byte :=
  u8 s.senseState ++ u8 s.sense.pattern ++ u16 s.sense.adcFaulty.length ++ u16 (s.sense.stagedN.getD s.cadence) ++ u16 0 ++
    u32 s.sense.sweeps ++ u32 s.sense.repeats

/-- THERM_STATUS. -/
def State.thermStatus (s : State) : List Byte :=
  u16 s.nearCount ++ u8 s.therm.shutCause ++ u8 s.therm.restart ++ u32 s.therm.plausTransients ++ u32 s.therm.shutTransients ++ u32 0

/-- VX_LANE_STATUS. -/
def State.laneStatus (s : State) : List Byte :=
  u8 s.vex.rx.num ++ u8 s.vex.rxLane.num ++ u8 s.vex.txLane.num ++ u8 s.vex.lastFail ++ u32 s.vex.losses ++
    (s.vex.lanes.map fun l => u8 (l.commaPos.getD 0xFF) ++ u8 (b2n l.polInv) ++ u8 l.deskew ++ u8 (l.logical.getD 0xFF) ++
      u32 l.errors).flatten

/-- VX_PKT_STATUS. -/
def State.pktStatus (s : State) : List Byte :=
  let v := s.vex
  u32 v.hdrErr ++ u32 v.loops ++ u32 v.crcFirst ++ u32 v.crcTransient ++ u32 v.crcLasting ++ u32 v.duplicates ++ u32 v.noCredit ++
    u32 v.unknown ++ u32 v.evDropped ++ u16 v.crTotal ++ u16 v.forwardPeak

/-- CAN_STATUS; an error counter above 127 makes the controller error-passive (R303). -/
def State.canStatus (s : State) : List Byte :=
  let c := s.can
  u16 c.tecErr ++ u16 c.recErr ++ u8 (if c.busOff then 2 else b2n s.canPassive) ++ u8 0 ++ u16 0 ++
    u32 c.busOffs ++ u32 c.recoveries ++ u32 c.strangers ++ u32 c.malformed ++ u32 c.clashes ++ u32 c.foreignBeats ++
    u32 c.blockTransients ++ u32 c.evLost

/-- REFLEX_STATUS: NO_MAP while sensing is off or suspended (R120). -/
def State.reflexStatus (s : State) : List Byte :=
  u8 (if !s.flag K.reflexEnable then 0 else if s.sensing then 1 else 2) ++ u8 (s.glare.slots.filter fun r => r.used).length ++ u16 0 ++
    u32 s.glare.overflow

/-- CAP_STATUS. -/
def State.capStatus (s : State) : List Byte :=
  u8 s.sup.capState ++ u8 (b2n s.sup.injecting) ++ u16 0 ++ u32 s.sup.capTaken ++ u32 s.sup.capSeq

/-- RALLY_STATE. -/
def RallyPhase.num : RallyPhase → Nat
  | .idle => 0 | .staged => 1 | .handover => 2 | .probation => 3

/-- The version staged, 0 when none (R394). -/
def State.stagedVersion (s : State) : Nat :=
  if s.rally.slotA.state == .staged then s.rally.slotA.version else if s.rally.slotB.state == .staged then s.rally.slotB.version else 0

/-- RALLY_RESULT (R394). -/
def State.rallyResult (s : State) : List Byte :=
  let r := s.rally
  pad4 (u8 r.outcome ++ u8 r.reason ++ u8 r.slotA.state.num ++ u8 r.slotB.state.num ++
    u8 (b2n r.coldPending + 2 * b2n r.transfer + 4 * b2n r.outcomeCold) ++ u32 s.stagedVersion ++ u32 r.newChunks.length ++
    u32 r.handovers ++ u64 r.gap ++ u64 r.outcomeAt)

/-- COMPAT_STATUS (R332): SOURCE, IMAGE and the flags of the latest Campion composition (log 27). -/
def State.compatStatus (s : State) : List Byte :=
  let c := s.comp.shown.getD { mode := 0, map := [], source := 0, index := 255, image := [], substituted := false }
  let ignored := bits c.mode 0 2 == 0 && bits c.mode 4 2 != 0
  u8 (b2n s.comp.campionOn) ++ u8 c.source ++ u8 c.index ++
    u8 (b2n c.substituted + 2 * b2n ignored + 4 * b2n s.comp.unbound) ++
    u32 s.comp.campionCommits ++ u32 s.comp.withdrawn ++ u32 s.comp.refusedNative

/-- AUX_STATUS (Table 21-2). -/
def State.auxStatusBytes (s : State) : List Byte :=
  let a := s.aux
  u8 (b2n a.matrixOn) ++ u8 a.chain ++ u16 0 ++ u32 a.frames ++ u32 a.shiftSeq ++ u32 a.loopTransient ++ u32 a.loopLasting ++
    u32 a.openTransient ++ u32 a.openLasting ++ u32 a.skipped ++ leBytes 16 (bitsNat a.openMap) ++ u32 0

/-- DEFECT_COUNTS (Table 15-17). -/
def State.defectCounts (s : State) : List Byte :=
  let n := fun (code : Nat) => (s.defects.filter fun e => e.2 == code).length
  u32 (n 2) ++ u32 (n 1) ++ u32 (n 3) ++ u32 (s.flt.cross.length + s.flt.crossOver) ++ u32 s.flt.vfAnomalies

/-- CROSS_LIST (Table 15-17). -/
def State.crossListBytes (s : State) : List Byte :=
  padTo 4100 (u16 s.flt.cross.length ++ u16 s.flt.crossOver ++ (s.flt.cross.map fun i => u16 (i % 2048) ++ u16 (i / 2048)).flatten)

/-- A box record (Table 6-1). -/
def Box.bytes (b : Box) (slot : Nat) : List Byte :=
  u8 slot ++ u8 (b2n b.enable) ++ u8 b.dilate ++ u8 0 ++ u16 b.x0 ++ u16 b.y0 ++ u16 b.x1 ++ u16 b.y1

/-- FB_IMAGE_i: what the latest service write applied, else what flash holds; no value is stated for an image without a good copy
(log 8). -/
def State.fbImageBytes (s : State) (i : Nat) : List Byte :=
  match kvGet s.flash.fbNew i with
  | some m => m.bytes i
  | none => match s.fbImageValue i with
    | some m => m.bytes i
    | none => (upTo 65600).map (Config.unstatedByte s.free)

/-- A probe record (Table 7-3). -/
def ProbeRec.bytes (r : ProbeRec) : List Byte :=
  u64 (r.vf * 2 ^ 52 + r.dark * 2 ^ 40 + r.ratio * 2 ^ 24 + r.nH * 2 ^ 22 + r.nV * 2 ^ 20 + bitsNat r.flags + r.defect * 64)

/-- PROBE_RESULTS (R143); while nothing is published it reads as at reset (R317). -/
def State.probeDomain (s : State) : List Byte :=
  let e := s.sense
  padTo 131088 (u32 e.recSeq ++ u8 e.recPattern ++ u8 e.recFlags ++ u16 0 ++ u64 e.recTstamp ++ (e.records.map ProbeRec.bytes).flatten)

/-- A per-zone array of optional u16 values, 0xFFFF for none (R140, R141). -/
def optWords (l : List (Option Nat)) : List Byte := (l.map fun v => u16 (v.getD 0xFFFF)).flatten

/-- The number of a temperature mode (Table 9-5). -/
def TempMode.num : TempMode → Nat
  | .measured => 0 | .seeded => 1 | .substituted => 2 | .stale => 3 | .invalid => 4

/-- ZONE_TEMP of zone `z` (Table 9-5). -/
def State.zoneTempWord (s : State) (z : Nat) : Nat :=
  let t := s.ztemp z
  regionOf z * 2 ^ 27 + t.mode.num * 2 ^ 24 + t.reason * 2 ^ 21 + b2n t.near * 2 ^ 20 + toRaw 16 t.t10

/-- ZONE_CURRENT of a zone (R36). -/
def Zone.currentWord (z : Zone) : Nat := if z.samples.length < 16 then 0xFFFF else rhu (sumNat z.samples) 32

/-- ZONE_STATE of zone `z` (Table 15-22). SENSE_UNAVAIL reads 0 outside LIT and FALLBACK, as at reset (DEDUCED, log 29). -/
def State.zoneStateWord (s : State) (i : Nat) : Nat :=
  let z := s.zone i
  b2n z.degraded * 2 ^ 15 + b2n (s.sense.adcFaulty.contains i) * 2 ^ 14 + b2n (s.sup.hsZones.contains i) * 2 ^ 13 +
    b2n (s.lighting && !s.zoneSensing i) * 2 ^ 12 + z.mode * 2 ^ 10 + b2n z.lumSource * 2 ^ 9 + b2n z.stuckHold * 2 ^ 8 + z.openCause * 4 +
    b2n (z.openAtCycle || z.closing) * 2 + b2n z.closed

/-! ### Values in force (R66, R114, R147) -/

/-- The window settings that a read returns: the displayed frame's, else those in force. -/
def State.winShown (s : State) (n : Nat) : Win :=
  if s.tim.disp.wins.isEmpty then s.glare.wins.getD n ⟨0, 0, 0, 0, 0⟩ else s.tim.disp.win n

/-- KD_ENABLE as read. -/
def State.kdShown (s : State) : Bool := if s.tim.disp.wins.isEmpty then s.glare.kdEnable else s.tim.disp.kdEnable

/-! ### The value of an object -/

/-- Subindexes 1 to 14 of a signature window's block (Table 15-12). SIG_ARMED is the flag of the displayed frame's expected state, also of a
window that R127 leaves unchecked (DESIGN CHOICE, log 50). -/
def State.windowValue (s : State) (n sub : Nat) : Nat :=
  let w := s.winShown n
  let r := s.glare.windows.getD n WindowState.reset
  match sub with
  | 1 => w.x0 | 2 => w.y0 | 3 => w.x1 | 4 => w.y1 | 5 => w.mode
  | 6 => b2n (s.tim.disp.expect n).armed | 7 => b2n (s.tim.disp.expect n).expectSelf | 8 => (s.tim.disp.expect n).expected | 9 => r.actual
  | 0x0A => (match r.phase with | .idle => 0 | .isMatch => 1 | .transient => 2 | .lasting => 3 | .blanked => 4 | .suspended => 5)
  | _ => r.transients

/-- An event block's scalar (Table 15-20). -/
def State.eventValue (s : State) (n sub : Nat) : Nat :=
  if sub = K.evSeverity then s.evSeverity n
  else if sub = K.evCount then (kvGet s.mgmt.evCounts n).getD 0
  else s.parN 0x4010 n sub

/-- The value of a scalar object that is not in a repeating block. COMMIT_POLICY and UNDERRUN_POLICY read as written last, also before the swap
that brings the value into force (DESIGN CHOICE, log 27). -/
def State.singleValue (s : State) (v : Transport) (key : Nat) : Nat :=
  if key = K.binObj then field (calRead s.chk.cal 0x148006 1) 0 1
  else if key = K.hwRev then Config.hwRev
  else if key = K.fwVersion then s.fwVersion
  else if key = K.roleObj then s.pwr.role
  else if key = K.unlockCount then s.flash.unlockCount
  else if key = K.canAddrLast then s.flash.canAddrLast.getD (Config.unstatedByte s.free 0).toNat
  else if key = K.vxAddr then s.vex.addr.getD 0xFF
  else if key = K.vxEpoch then s.vex.epoch
  else if key = K.devState then s.pwr.dev.num
  else if key = K.modHealth then s.flt.health
  else if key = K.lastWakeCause then bitsNat s.pwr.wakeCause
  else if key = K.sleepResult then s.pwr.sleepResult
  else if key = K.lastResetCause then
    (match s.pwr.lastReset with | .por => 0 | .brownOut => 1 | .resetN => 2 | .watchdog => 3 | .dictionary => 4 | .rallyRevert => 5)
  else if key = K.vinMv then s.pwr.vinMv
  else if key = K.frameMin then s.tim.minCyc
  else if key = K.frameMax then s.tim.maxCyc
  else if key = K.lineMatch then s.tim.lineMatch
  else if key = K.frameCountObj then s.tim.frameCount
  else if key = K.displayedTagObj then s.tim.displayedTag
  else if key = K.pagesFree then s.pagesFree
  else if key = K.queuePeakObj then s.surf.queuePeak
  else if key = K.kdEnable then b2n s.kdShown
  else if key = K.kdTransients then s.glare.kdTransients
  else if key = K.senseInterval then s.cadence
  else if key = K.limitFactor then s.tim.disp.limit
  else if key = K.healthReason then bitsNat s.flt.reasons
  else if key = K.eventSeqObj then s.mgmt.evSeq
  else if key = K.logReadIndex then (s.access v).logIndex
  else if key = K.fwVersionA then s.rally.slotA.version
  else if key = K.fwVersionB then s.rally.slotB.version
  else if key = K.activeBank then b2n s.rally.bankB
  else if key = K.rallyState then s.rally.phase.num
  else if key = K.rollbackCounter then s.flash.rollback
  else if key = K.compatEnable then b2n s.comp.campionOn
  else s.par key

/-- The raw value of a scalar object; subindex 0 is HIGHEST_SUB (R307). -/
def State.scalarValue (s : State) (v : Transport) (index sub : Nat) : Nat :=
  if sub = 0 then (match objFind index 0 with | some o => o.dflt | none => 0)
  else match blockBase index with
    | 0x2310 => if sub = K.surfLen then s.surfLen (index - 0x2310) else s.surfPar (index - 0x2310) sub
    | 0x2440 => s.windowValue (index - 0x2440) sub
    | 0x4010 => s.eventValue (index - 0x4010) sub
    | _ => s.singleValue v (objKey index sub)

/-- The bytes of a DOMAIN or STR object that is not in a repeating block. LOG_RECORDS is read from its index. -/
def State.singleBytes (s : State) (v : Transport) (key : Nat) : List Byte :=
  if key = K.vendor then ascii "THOANE"
  else if key = K.product then ascii "PH1M-2048"
  else if key = K.grade then ascii "A1"
  else if key = K.serialObj then s.serial.takeWhile (· != 0)
  else if key = K.accessLevel then u8 s.mgmt.can.level.num ++ u8 s.mgmt.vexlink.level.num ++ u8 s.mgmt.svc.level.num ++ u8 0
  else if key = K.canStatus then s.canStatus
  else if key = K.vxLaneStatus then s.laneStatus
  else if key = K.vxPktStatus then s.pktStatus
  else if key = K.persistStatus then s.persistStatus
  else if key = K.commitStage then s.can.stage.getD []
  else if key = K.monitorObj then s.monitorDomain
  else if key = K.zoneSumObj then padTo 2048 ((s.comp.zoneSums.map u32).flatten) ++ u32 s.comp.zoneSumTag
  else if key = K.reflexBoxes then (s.reflexBoxes.zipIdx.map fun e => e.1.bytes e.2).flatten
  else if key = K.reflexStatus then s.reflexStatus
  else if key = K.calGp then calRead s.chk.cal 0 0x100000
  else if key = K.calDefect then calRead s.chk.cal 0x100000 0x40000
  else if key = K.calZones then calRead s.chk.cal 0x140000 0x8000
  else if key = K.calHeader then calRead s.chk.cal 0x148000 4096
  else if key = K.calStatus then s.calStatus
  else if key = K.senseState then s.senseStatus
  else if key = K.probeResults then s.probeDomain
  else if key = K.zoneLum then optWords s.sense.pubLum
  else if key = K.zoneVf then optWords s.sense.pubVf
  else if key = K.zoneVfSweep then optWords s.sense.pubVfSweep
  else if key = K.mapObj then s.mapDomain
  else if key = K.vledStatus then s.vledStatus
  else if key = K.limiterStatus then s.limiterStatus
  else if key = K.zloopStatus then s.zloopStatus
  else if key = K.capStatus then s.capStatus
  else if key = K.captureObj then padTo 32800 s.sup.capture
  else if key = K.tdReadings then s.tdReadings
  else if key = K.regionF then s.regionFs
  else if key = K.thermStatus then s.thermStatus
  else if key = K.transientCounts then (s.flt.counts.map u32).flatten
  else if key = K.defectCounts then s.defectCounts
  else if key = K.crossListObj then s.crossListBytes
  else if key = K.fbStatus then s.fbStatus
  else if key = K.fbImage0 then s.fbImageBytes 0
  else if key = K.fbImage1 then s.fbImageBytes 1
  else if key = K.fbImage2 then s.fbImageBytes 2
  else if key = K.fbImage3 then s.fbImageBytes 3
  else if key = K.auxStatus then s.auxStatusBytes
  else if key = K.crcsResult then u32 s.chk.crcsCv ++ u32 s.chk.crcsLen
  else if key = K.crcsStatus then u8 s.chk.crcsState ++ u8 s.chk.crcsCause
  else if key = K.zoneGain then (s.zones.map fun z => u16 z.gz).flatten
  else if key = K.zoneTemp then ((upTo 512).map fun z => u32 (s.zoneTempWord z)).flatten
  else if key = K.zoneCurrent then (s.zones.map fun z => u16 z.currentWord).flatten
  else if key = K.zoneState then ((upTo 512).map fun z => u16 (s.zoneStateWord z)).flatten
  else if key = K.eventLatched then leBytes 16 (bitsNat s.mgmt.latched)
  else if key = K.logStatus then s.logStatus
  else if key = K.logRecordsObj then ((s.logFrom (s.access v).logIndex).map (·.2)).flatten
  else if key = K.thermLogObj then padTo 4096 s.flash.thermLog.flatten
  else if key = K.rallyResult then s.rallyResult
  else if key = K.compatStatus then s.compatStatus
  else s.dom key

/-- The bytes of a DOMAIN or STR object. A box mirror reads its slot's record also in a frame with KD_ENABLE 0 (log 50). -/
def State.domainBytes (s : State) (v : Transport) (index sub : Nat) : List Byte :=
  match blockBase index with
  | 0x2210 => s.layerStatus (index - 0x2210)
  | 0x2310 =>
    let n := index - 0x2310
    if sub = K.surfImage then s.surfRead n 0 (s.surfPar n K.surfSize) else s.surfStatus n
  | 0x2410 => (s.tim.disp.hostBoxes.getD (index - 0x2410) Box.off).bytes (index - 0x2410)
  | 0x4010 => (kvGet s.mgmt.evLast (index - 0x4010)).getD (List.replicate 64 0)
  | _ => s.singleBytes v (objKey index sub)

/-- The bytes that a read of an object returns on a transport. -/
def State.readObject (s : State) (v : Transport) (index sub : Nat) (o : Obj) : List Byte :=
  if o.ty = .dom ∨ o.ty = .str then s.domainBytes v index sub else leBytes o.ty.size (s.scalarValue v index sub)

/-! ### The domain an access needs (R317, R357) -/

/-- The power domain in which an object's value lies, none for those held in MGMT. LINK's objects are taken to be MGMT's (log 35). -/
def domainOf (index sub : Nat) : Option Domain :=
  let key := objKey index sub
  match blockBase index with
  | 0x2210 => if sub = K.layerStatus then some .comp else none
  | 0x2310 => if sub = K.surfCmd ∨ sub = K.surfImage ∨ sub = K.surfStatus then some .comp else none
  | _ =>
    if [K.monitorObj, K.zoneSumObj, K.queuePeakObj, K.calGp, K.calDefect, K.calZones, K.calHeader].contains key then some .comp
    else if [K.probeResults, K.zoneLum, K.zoneVf, K.zoneVfSweep, K.mapObj].contains key then some .scan
    else if [K.vledStatus, K.zloopStatus, K.capStatus, K.captureObj, K.zoneGain, K.zoneCurrent, K.zoneState].contains key then some .emit
    else if key = K.auxStatus then some .aux
    else none

/-- An access to an object wakes its domain (R317, R357). -/
def State.wakeFor (s : State) (index sub : Nat) : State :=
  match domainOf index sub with
  | some d => s.wake d
  | none => s

end Sys2Proof.Machine
end

