-- ==== Sys2Proof/Machine/AccessOps.lean ====
section
/-! DEFINITION. Access levels: the challenge, its response, the lockout, and the end of a session (R304 to R306). -/

namespace Sys2Proof.Machine

open Sys2Proof

/-- A session ends: its transport returns to USER; the end of an INTEGRATOR session stops injection (R179, R306). -/
def State.endSession (s : State) (v : Transport) : State :=
  let was := (s.access v).level
  let s1 := s.onAccess v fun a => { a with level := .user }
  if was = .integrator then s1.stopInjection 1 else s1

/-- Seconds of the lockout that remain (R305). -/
def State.lockoutLeft (s : State) : Nat := (s.mgmt.lockUntil - s.now + 999999) / 1000000

/-- A challenge is issued for a level (R305): 12 random bytes, then UNLOCK_COUNT, which this challenge has increased. One outstanding is
voided. -/
def State.issueChallenge (s : State) (v : Transport) (level : Nat) : List Byte × State :=
  let count := inc32 s.flash.unlockCount 1
  let (rnd, s1) := s.drawRandom 12
  let c := rnd ++ u32 count
  (c, ((s1.onFlash fun f => { f with unlockCount := count }).writeDue 16).onAccess v fun a => { a with challenge := some (level, c) })

/-- The level that a number names. -/
def levelOfNum (n : Nat) : Level := if n = 1 then .integrator else .service

/-- The key of a level (R305). -/
def State.keyOf (s : State) (level : Nat) : List Byte := if level = 1 then s.flash.kInt else s.flash.kSvc

/-- Whether a response answers the challenge outstanding on a transport (R305). -/
def State.responseHolds (s : State) (v : Transport) (level : Nat) (response : List Byte) : Bool :=
  match (s.access v).challenge with
  | some (l, c) => l == level && aes256 (s.keyOf l) c == response
  | none => false

/-- A match raises the transport's level (R305). -/
def State.grantLevel (s : State) (v : Transport) (level : Nat) : State :=
  (s.onMgmt fun m => { m with mismatches := 0 }).onAccess v fun a => { a with
    challenge := none, level := if a.level.num < level then levelOfNum level else a.level }

/-- A mismatch voids the challenge; the third in a row bars UNLOCK_REQ for 60 s (R305). -/
def State.countMismatch (s : State) (v : Transport) : State :=
  let n := s.mgmt.mismatches + 1
  let s1 := s.onAccess v fun a => { a with challenge := none }
  if n < 3 then s1.onMgmt fun m => { m with mismatches := n }
  else s1.onMgmt fun m => { m with mismatches := 0, lockUntil := s.now + 60000000 }

/-- UNLOCK_REQ as a request (R305): a fresh challenge, or LOCKOUT with the seconds remaining. -/
def State.unlockRequest (s : State) (m : GrenzMsg) (level : Nat) : State :=
  if s.now < s.mgmt.lockUntil then s.refuse m 0x0E s.lockoutLeft
  else if level ≠ 1 ∧ level ≠ 2 then s.refuse m 5 0
  else
    let (c, s1) := s.issueChallenge m.req.via level
    s1.reply m c

/-- UNLOCK_RESP as a request (R305): the level granted, or REFUSED for a mismatch or with no challenge outstanding. -/
def State.unlockAnswer (s : State) (m : GrenzMsg) (level : Nat) (response : List Byte) : State :=
  let v := m.req.via
  if (s.access v).challenge.isNone then s.refuse m 0x0F 0
  else if s.responseHolds v level response then (s.grantLevel v level).reply m (u8 level)
  else (s.countMismatch v).refuse m 0x0F 0

/-- LOCK as a request (R306). -/
def State.lockRequest (s : State) (m : GrenzMsg) : State := (s.endSession m.req.via).reply m []

/-- 5 s have passed without UNLOCK_RESP: the challenge is void (R305). -/
def State.voidChallenge (s : State) (v : Transport) : State := s.onAccess v fun a => { a with challenge := none }

end Sys2Proof.Machine
end

