-- ==== Sys2Proof/Machine/AuxOps.lean ====
section
/-! DEFINITION. The auxiliary segment driver: the frame and its sampled settings (R395), the direct matrix (R396 to R400), the shift
chain with its latch and loopback (R401 to R404, R406), and AUX_ENABLE (R405). -/

namespace Sys2Proof.Machine

open Sys2Proof

/-! ### Sampled settings (R395) -/

/-- The u16 at element `i` of a sampled DOMAIN; the empty string stands for all 0. -/
def element (bs : List Byte) (i : Nat) : Nat := field bs (2 * i) 2

/-- The settings sampled at a frame start (R395). -/
def State.sampleAux (s : State) : State :=
  s.onAux fun a => { a with
    frames := inc32 a.frames 1, frameAt := s.now, matrixStarts := false
    lineTime := s.par K.auxLineTime, lineBlank := s.par K.auxLineBlank, sinkMa := (s.dom K.auxSinkMa).map BitVec.toNat
    matrix := s.dom K.auxMatrix, chainLen := s.par K.auxChainLen, chainMode := s.par K.auxChainMode, sckKhz := s.par K.auxSck
    chainData := s.dom K.auxChain }

/-! ### Direct matrix (R396 to R400) -/

/-- T_s of sink `c` in line `k`, in PIXCLK periods; 0 keeps the sink off (R398, R399). -/
def Aux.onTime (a : Aux) (k c : Nat) : Nat :=
  if a.sinkMa.getD c 0 = 0 then 0
  else (20 * (a.lineTime - a.lineBlank) * element a.matrix (16 * k + c) + 32767) / 65535

/-- One sink's look in its line slot (R400): it passes or fails. -/
def State.openLook (s : State) (seg : Nat) (fails : Bool) : State :=
  let pending := s.aux.openLooks.contains seg
  if !fails then
    let s1 := s.onAux fun a => { a with openMap := setDel a.openMap seg, openLooks := setDel a.openLooks seg }
    if pending then (s1.onAux fun a => { a with openTransient := inc32 a.openTransient 1 }).transientRecord 0xFFFF [] else s1
  else if s.aux.openMap.contains seg then s
  else if pending then
    s.onAux fun a => { a with
      openMap := setAdd a.openMap seg, openLooks := setDel a.openLooks seg, openLasting := inc32 a.openLasting 1 }
  else s.onAux fun a => { a with openLooks := setAdd a.openLooks seg }

/-- Line `k`'s slot: its gate drive pulls low, the sinks conduct for their on-times, and each sink that is set above 0 mA and
conducts for at least 40 PIXCLK periods is looked at (R397, R399, R400). -/
def State.lineSlot (s : State) (k : Nat) (failing : List Nat) : State :=
  if !s.pwr.aux || !s.aux.matrixOn || s.aux.matrixStarts then s
  else
    let times := (upTo 16).map (s.aux.onTime k)
    let s1 := s.onAux fun a => { a with line := some k, onTimes := times }
    (upTo 16).foldl (fun s c => if 40 ≤ times.getD c 0 then s.openLook (16 * k + c) (failing.contains c) else s) s1

/-! ### Shift chain (R401 to R404) -/

/-- The bits of a value, most significant first. -/
def msbBits (w v : Nat) : List Bool := (upTo w).map fun i => bitOf v (w - 1 - i)

/-- The word of an element value in a mode of AUX_CHAIN_MODE (R402). -/
def chainWord (mode v : Nat) : List Bool :=
  match mode with
  | 0 => [v != 0]
  | 1 => msbBits 12 (v / 16)
  | _ => msbBits 16 v

/-- The stream of a shift (R402): drivers from the last to 0, channels from 15 to 0, the most significant bit first. -/
def chainStream (len mode : Nat) (data : List Byte) : List Bool :=
  ((upTo (16 * len)).map fun i => chainWord mode (element data (16 * len - 1 - i))).flatten

/-- Eight bits as a byte, most significant first. -/
def packByte (bs : List Bool) : Byte := BitVec.ofNat 8 (bs.foldl (fun a b => 2 * a + b2n b) 0)

/-- A stream packed into bytes in shift order, padded with 0 bits (R404). -/
def packBits (bs : List Bool) : List Byte :=
  (upTo ((bs.length + 7) / 8)).map fun i =>
    let w := (bs.drop (8 * i)).take 8
    packByte (w ++ List.replicate (8 - w.length) false)

/-- The check value of a packed stream with the SHIFT_SEQ of its shift as fold (R404). -/
def streamCheck (seq : Nat) (packed : List Byte) : Nat := crc crc16Params (u16 seq) packed

/-- The largest of the elements that the chain shows (R403). -/
def Aux.groupLevel (a : Aux) : Nat := maxNat ((upTo (16 * a.chainLen)).map (element a.chainData))

/-- T_b in PIXCLK periods (R403). -/
def Aux.blankTime (a : Aux) : Nat :=
  let p := 160 * a.lineTime
  if a.chainMode = 0 then ((p - 20) * a.groupLevel + 32767) / 65535 else p - 20

/-- A shift starts with the settings just sampled (R403, R406). One with nothing to compare is not judged (R404). -/
def Aux.startShift (a : Aux) : Aux :=
  let same := a.chainLen == a.shiftLen && a.chainMode == a.shiftMode
  { a with
    shifting := true, shiftSeq := inc32 a.shiftSeq 1, shiftLen := a.chainLen, shiftMode := a.chainMode
    shiftBits := chainStream a.chainLen a.chainMode a.chainData
    kept := if same then a.kept else none
    judge := same && a.kept.isSome, complete := false, withhold := false }

/-- Whether a shift starts at a frame start: the chain shifts, none runs, and none waits for its latch (R403). -/
def Aux.shiftStarts (a : Aux) : Bool :=
  (a.chain == 1 || a.chain == 3) && !a.shifting && !(a.complete && !a.withhold)

/-- The chain's part of a frame start: a shift may start, and AUX_BLANK falls for T_b (R403), unless it is held high (R404). -/
def Aux.chainFrame (a : Aux) : Aux :=
  let b := if a.shiftStarts then a.startShift else a
  { b with blankHigh := !(b.chain == 1 && !b.heldBlank && decide (0 < b.blankTime)) }

/-- An auxiliary frame begins (R395, R403, R405). -/
def State.auxFrame (s : State) : State := if s.pwr.aux then s.sampleAux.onAux Aux.chainFrame else s

/-- A first mismatch: the latch is withheld, and AUX_BLANK held high (R404). -/
def Aux.mismatch (a : Aux) (value : Nat) : Aux :=
  { a with look := some value, withhold := true, blankHigh := true, heldBlank := true }

/-- A second mismatch: LASTING, and BLANKED_FAULT (R404). The next shift is not judged. -/
def Aux.loopFault (a : Aux) : Aux :=
  { a with
    look := none, withhold := true, blankHigh := true, heldBlank := true, matching := 0, kept := none
    chain := if a.chain = 1 then 3 else a.chain, loopLasting := inc32 a.loopLasting 1 }

/-- A comparison while in BLANKED_FAULT: 16 matching ones in a row end it (R404). -/
def Aux.faultCompare (a : Aux) (same : Bool) : Aux :=
  let n := if same then a.matching + 1 else 0
  if n < 16 then { a with matching := n, withhold := true } else { a with matching := 0, withhold := false, chain := 1 }

/-- The loopback judgement at the end of a shift, with the check value of what came back (R404). A TRANSIENT result counts among the stored
check values, and is logged with the values of its two looks (R341). A look waits over a shift that is not judged (R198). -/
def State.judgeLoop (s : State) (same : Bool) (value : Nat) : State :=
  let a := s.aux
  if !a.judge then s.onAux fun a => { a with withhold := a.withhold || a.chain == 3 }
  else if a.chain = 3 then s.onAux fun a => a.faultCompare same
  else match same, a.look with
    | true, some first =>
      (s.onAux fun a => { a with look := none, loopTransient := inc32 a.loopTransient 1 }).transient chkStored (u32 first ++ u32 value)
    | true, none => s
    | false, some _ => s.onAux Aux.loopFault
    | false, none => s.onAux fun a => a.mismatch value

/-- A shift completes (R403 to R405): its loopback is judged against the check value kept, then the check value of the stream sent is
kept. A chain turned off during the shift is OFF, and its shift counts as no stream sent. -/
def State.shiftDone (s : State) (returned : List Byte) : State :=
  let a := s.aux
  if !s.pwr.aux || !a.shifting then s
  else
    let value := match a.kept with
      | some (_, seq) => streamCheck seq returned
      | none => 0
    let same := match a.kept with
      | some (v, _) => value == v
      | none => true
    let own := (streamCheck a.shiftSeq (packBits a.shiftBits), a.shiftSeq)
    let s1 := (s.onAux fun a => { a with shifting := false, complete := true, doneAt := s.now }).judgeLoop same value
    let lasting := a.judge && !same && a.look.isSome && a.chain != 3
    s1.onAux fun b => { b with
      kept := if lasting || a.withhold then none else some own, judge := false, look := if b.chain = 2 then none else b.look
      complete := b.chain != 2, withhold := b.withhold && b.chain != 2, chain := if b.chain = 2 then 0 else b.chain }

/-- T_b ends: AUX_BLANK rises (R403). -/
def State.blankRise (s : State) : State := if s.pwr.aux then s.onAux fun a => { a with blankHigh := true } else s

/-- Whether the shift completed at least 1 µs before the frame's end (R403). -/
def Aux.inTime (a : Aux) : Bool := decide (a.doneAt + 1 ≤ a.frameAt + 8 * a.lineTime)

/-- The end of an auxiliary frame (R403): a shift that completed in time is latched; a frame end with the shift still running, or completed
later than that, is SKIPPED; a shift whose latch is withheld is done with. -/
def State.latchEnd (s : State) : State :=
  let a := s.aux
  if !s.pwr.aux || a.chain == 0 || a.chain == 2 then s
  else if a.complete && !a.withhold && a.inTime then
    s.onAux fun a => { a with latched := a.shiftBits, complete := false, heldBlank := false }
  else if a.complete && a.withhold then s.onAux fun a => { a with complete := false, withhold := false }
  else if a.complete || a.shifting then s.onAux fun a => { a with skipped := inc32 a.skipped 1 }
  else s

/-! ### AUX_ENABLE (R405) -/

/-- The matrix turned on or off. -/
def Aux.setMatrix (a : Aux) (on : Bool) : Aux :=
  if on = a.matrixOn then a
  else if on then { a with matrixOn := true, matrixStarts := true }
  else { a with matrixOn := false, matrixStarts := false, line := none, onTimes := [] }

/-- The chain turned on or off. -/
def Aux.setChain (a : Aux) (on : Bool) : Aux :=
  let was := a.chain == 1 || a.chain == 3
  if on = was then a
  else if on then { a with chain := 1 }
  else if a.shifting then { a with chain := 2, withhold := true, blankHigh := true }
  else { a with chain := 0, blankHigh := true, complete := false, withhold := false }

/-- What every write of AUX_ENABLE clears (R400, R404, R405). A shift that a chain turned off completes is still judged, against the
check value kept. A look that is pending waits for the next comparison (R198). -/
def Aux.cleared (a : Aux) : Aux :=
  let stopping := a.chain == 2
  { a with
    openMap := [], kept := if stopping then a.kept else none, judge := a.judge && stopping, matching := 0
    chain := if a.chain = 3 then 1 else a.chain }

/-- The auxiliary parts take a value of AUX_ENABLE (R405). -/
def Aux.enable (a : Aux) (v : Nat) : Aux := ((a.setMatrix (bitOf v 0)).setChain (bitOf v 1)).cleared

/-- An accepted AUX_ENABLE value acts (R405). In STANDBY the AUX domain is powered while it is not OFF (Table 18-2); turned OFF, it
returns to the state's setting after its idle time (R357). After a controller shutdown AUX stays off (R349). -/
def State.enableAux (s : State) (v : Nat) : State :=
  let s1 := s.onAux fun a => a.enable v
  if s.ctrlDark then s1
  else if v ≠ 0 then s1.auxUp.onPwr fun p => { p with onDemand := enumDel p.onDemand .aux }
  else if s.pwr.dev == .standby && s.pwr.aux then s1.onPwr fun p => { p with onDemand := enumAdd p.onDemand .aux } else s1

end Sys2Proof.Machine
end

