-- ==== Sys2Proof/Machine/LogOps.lean ====
section
/-! DEFINITION. The log in flash: writing a record, the ring of sectors (R344), the queue (R345), LOG_CLEAR (R346), and the reads of
LOG_RECORDS (R347). -/

namespace Sys2Proof.Machine

open Sys2Proof

/-! ### The ring (R344) -/

/-- Records of a sector. -/
def logSector : Nat := 1024

/-- The LOG_SEQ below which records are erased when record `seq` is the first of its sector: the sector after it is erased first, which
holds the records 62 sectors and more behind (R344). -/
def erasedBelow (seq : Nat) : Nat := seq - 62 * logSector

/-- The write point enters an erased sector: the sector after it is erased, with EV117 where records are lost by it, which names the oldest
record that survives (R344, R424). -/
def State.enterSector (s : State) (seq : Nat) : State :=
  let kept := s.flash.log.filter fun e => decide (erasedBelow seq ≤ e.1)
  if kept.length = s.flash.log.length then s
  else
    let s1 := s.onFlash fun f => { f with log := kept, logWraps := inc32 f.logWraps 1 }
    s1.raise { ev := 117, data := u32 ((kept.head?.map Prod.fst).getD (erasedBelow seq)) }

/-- Before the first record of a sector is programmed, the sector after it is erased (R344). -/
def State.openSector (s : State) : State := if s.flash.logNext % logSector = 0 then s.enterSector s.flash.logNext else s

/-- A record is written to flash with the next LOG_SEQ and its seal (R340, R344). -/
def State.writeRecord (s : State) (rcd : List Byte) : State :=
  let seq := s.flash.logNext
  s.openSector.onFlash fun f => { f with log := f.log ++ [(seq, sealed (u32 seq ++ rcd.drop 4))], logNext := inc32 seq 1 }

/-! ### The queue (R345) -/

/-- Queued records are written in raise order; discards are then noted in a SYSTEM record with their count (R345). While firmware is
stopped nothing is written. -/
def State.writeQueue (s : State) : State :=
  if !s.up || s.rally.phase == .handover then s
  else
    let queued := s.mgmt.clearRecord.toList ++ s.mgmt.logQueue
    let s1 := queued.foldl State.writeRecord (s.onMgmt fun m => { m with logQueue := [], clearRecord := none })
    let n := s.mgmt.dropsToNote
    if n = 0 then s1 else (s1.onMgmt fun m => { m with dropsToNote := 0 }).systemRecordWith (u32 n)

/-! ### LOG_CLEAR (R346) -/

/-- Every sector is erased, and a SYSTEM record naming the clear is written once that is done, before the records still queued. Its DATA
layout is not stated: free bytes (log 8). -/
def State.clearLog (s : State) : State :=
  let (d, s1) := s.drawUnstated 32
  let rcd := s1.recordBody s1.mgmt.evSeq 3 0xFF 0 (s1.recordFlags false false false) 0xFFFF d
  (s1.onFlash fun f => { f with log := [] }).onMgmt fun m => { m with reconstructed := false, clearRecord := some rcd }

/-- Power is lost while the record at the front of the queue is being programmed: it is torn, stays in place unread, counts as CORRUPT and
leaves a gap in LOG_SEQ (R345). -/
def State.tearRecord (s : State) : State :=
  if s.up && !(s.mgmt.clearRecord.toList ++ s.mgmt.logQueue).isEmpty then
    s.openSector.onFlash fun f => { f with logNext := inc32 f.logNext 1, logCorrupt := inc32 f.logCorrupt 1 }
  else s

/-! ### Reads of LOG_RECORDS (R347) -/

/-- The index that a completed read of `n` records from an index leaves: one more than the last LOG_SEQ returned. -/
def State.logNextIndex (s : State) (index n : Nat) : Nat :=
  match ((s.logFrom index).take n).getLast? with
  | some e => e.1 + 1
  | none => index

/-- A read of `n` records of LOG_RECORDS begins: its transport and TOKEN, and the index that its completion sets. Each transport has its own
(R347). -/
def State.beginLogRead (s : State) (r : Req) (n : Nat) : State :=
  s.onMgmt fun m => { m with logReads := m.logReads ++ [(r.via, r.token, s.logNextIndex (s.access r.via).logIndex n)] }

/-- A block read of LOG_RECORDS has been acknowledged in full. -/
def State.endLogRead (s : State) (r : Req) : State :=
  match s.mgmt.logReads.find? fun e => e.1 == r.via with
  | some e => (s.onMgmt fun m => { m with logReads := m.logReads.erase e }).onAccess r.via fun a => { a with logIndex := e.2.2 }
  | none => s

end Sys2Proof.Machine
end

