-- ==== Sys2Proof/Machine/Reflex.lean ====
section
/-! DEFINITION. Reflex processing (R117 to R121): blobs of a map, the reflex slots, and their commands. -/

namespace Sys2Proof.Machine

open Sys2Proof

/-! ### Blobs (R118) -/

/-- A bin with its value: u, w, value. -/
abbrev Bin := Nat × Nat × Nat

/-- Whether two bins are the same or eight-neighbours. -/
def nearBins (a b : Bin) : Bool :=
  decide (a.1 ≤ b.1 + 1) && decide (b.1 ≤ a.1 + 1) && decide (a.2.1 ≤ b.2.1 + 1) && decide (b.2.1 ≤ a.2.1 + 1)

/-- A set of bins grown by its neighbours among `cand`; `fuel` bounds the rounds. -/
def growBlob (cand : List Bin) : Nat → List Bin → List Bin
  | 0, comp => comp
  | fuel + 1, comp =>
    match cand.filter fun b => !comp.contains b && comp.any (nearBins b) with
    | [] => comp
    | more => growBlob cand fuel (comp ++ more)

/-- The blobs of a set of bins: connected sets that contain a seed; `fuel` bounds their number. -/
def findBlobs (on : Nat) : Nat → List Bin → List (List Bin)
  | 0, _ => []
  | fuel + 1, cand =>
    match cand.find? fun b => decide (on ≤ b.2.2) with
    | none => []
    | some seed =>
      let comp := growBlob cand cand.length [seed]
      comp :: findBlobs on fuel (cand.filter fun b => !comp.contains b)

/-- A rectangle of bins: left, top, right, bottom. -/
structure BinRect where
  u0 : Nat
  w0 : Nat
  u1 : Nat
  w1 : Nat
  deriving DecidableEq, Repr

/-- The bounding rectangle of two. -/
def BinRect.join (a b : BinRect) : BinRect := ⟨min a.u0 b.u0, min a.w0 b.w0, max a.u1 b.u1, max a.w1 b.w1⟩

/-- The area of a rectangle in bins. -/
def BinRect.area (a : BinRect) : Nat := (a.u1 + 1 - a.u0) * (a.w1 + 1 - a.w0)

/-- Whether two rectangles overlap or touch, diagonally included (R119). -/
def BinRect.touches (a b : BinRect) : Bool :=
  decide (a.u0 ≤ b.u1 + 1) && decide (b.u0 ≤ a.u1 + 1) && decide (a.w0 ≤ b.w1 + 1) && decide (b.w0 ≤ a.w1 + 1)

/-- A blob as the slots see it: its rectangle, its size and its highest value. -/
structure Blob where
  rect : BinRect
  size : Nat
  peak : Nat
  deriving DecidableEq, Repr

/-- The blob of a set of bins. -/
def blobOf (bs : List Bin) : Blob :=
  let us := bs.map (·.1)
  let ws := bs.map fun b => b.2.1
  ⟨⟨us.foldl min 255, ws.foldl min 63, maxNat us, maxNat ws⟩, bs.length, maxNat (bs.map fun b => b.2.2)⟩

/-- A reflex parameter in force for the published map: the value it had when the map was published (R117). Numbers: REFLEX_THRESH_ON 0,
REFLEX_THRESH_OFF 1, REFLEX_ROI 2, REFLEX_MIN_BINS 3, REFLEX_DILATE_PX 4, REFLEX_HOLD_MS 5, REFLEX_MAX_BOXES 6. -/
def State.mapParam (s : State) (k : Nat) : Nat := s.glare.mapParams.getD k 0

/-- REFLEX_ROI: bytes U0, W0, U1, W1. -/
def State.reflexRoi (s : State) : BinRect :=
  let d := s.mapParam 2
  ⟨bits d 0 8, bits d 8 8, bits d 16 8, bits d 24 8⟩

/-- The kept blobs of the published map (R118), the largest first, of equal size the highest value first (R119); of equal size and
value in the order found (log 29). -/
def State.reflexBlobs (s : State) : List Blob :=
  let roi := s.reflexRoi
  let off := s.mapParam 1
  let cand := ((s.sense.map.zipIdx).map fun e => (e.2 % 256, e.2 / 256, e.1 % 4096)).filter fun b =>
    decide (off ≤ b.2.2) && decide (roi.u0 ≤ b.1) && decide (b.1 ≤ roi.u1) && decide (roi.w0 ≤ b.2.1) && decide (b.2.1 ≤ roi.w1)
  let blobs := ((findBlobs (s.mapParam 0) cand.length cand).map blobOf).filter fun b => decide (s.mapParam 3 ≤ b.size)
  blobs.mergeSort fun a b => decide (b.size < a.size) || (a.size == b.size && decide (b.peak ≤ a.peak))

/-! ### Slots (R119) -/

/-- A slot's detected rectangle. -/
def ReflexSlot.rect (r : ReflexSlot) : BinRect := ⟨r.u0, r.w0, r.u1, r.w1⟩

/-- A slot that holds a rectangle, matched at a time. -/
def ReflexSlot.hold (a : BinRect) (dilate t : Nat) : ReflexSlot := ⟨true, a.u0, a.w0, a.u1, a.w1, dilate, t⟩

/-- The numbers of the slots that a blob matches. -/
def matchedSlots (slots : List ReflexSlot) (b : Blob) : List Nat :=
  (slots.zipIdx.filter fun e => e.1.used && b.rect.touches e.1.rect).map (·.2)

/-- Step 1 (R119): a slot matched by blobs takes the bounding rectangle of all of them. -/
def matchSlots (old : List ReflexSlot) (blobs : List Blob) (dilate t : Nat) : List ReflexSlot :=
  old.zipIdx.map fun e =>
    match (blobs.filter fun b => (matchedSlots old b).contains e.2).map Blob.rect with
    | [] => e.1
    | r :: rest => ReflexSlot.hold (rest.foldl BinRect.join r) dilate t

/-- Step 2 (R119): the slots that one blob matches are merged into the lowest of them. `reps` names the slot each merged slot went
into. -/
def mergeSlots (dilate t : Nat) : List (List Nat) → List ReflexSlot → List (Nat × Nat) → List ReflexSlot
  | [], slots, _ => slots
  | m :: rest, slots, reps =>
    let now := (m.map fun k => (kvGet reps k).getD k).foldl setAdd []
    match now with
    | [] => mergeSlots dilate t rest slots reps
    | lo :: others =>
      if others.isEmpty then mergeSlots dilate t rest slots reps
      else
        let r := others.foldl (fun a k => BinRect.join a (slots.getD k ReflexSlot.reset).rect) (slots.getD lo ReflexSlot.reset).rect
        let slots1 := others.foldl (fun l k => l.set k ReflexSlot.reset) (slots.set lo (ReflexSlot.hold r dilate t))
        let reps1 := others.foldl (fun l k => kvSet l k lo) (reps.map fun e => if others.contains e.2 then (e.1, lo) else e)
        mergeSlots dilate t rest slots1 reps1

/-- The used slot whose rectangle a blob enlarges least, the lowest among equals (R119, step 4). -/
def leastEnlarged (slots : List ReflexSlot) (b : Blob) : Option Nat :=
  (slots.zipIdx.filter fun e => e.1.used).foldl (fun (a : Option (Nat × Nat)) e =>
    let grow := (BinRect.join e.1.rect b.rect).area - e.1.rect.area
    match a with
    | none => some (grow, e.2)
    | some best => if grow < best.1 then some (grow, e.2) else a) none |>.map Prod.snd

/-- Steps 3 and 4 (R119): unmatched blobs take the lowest-numbered free slots (log 29), or are merged where none is free; the count of
the latter. A slot into which a blob is merged counts as matched: its hold begins again, with the DILATE_PX in force (log 50). -/
def placeBlobs (maxSlots dilate t : Nat) : List Blob → List ReflexSlot → Nat → List ReflexSlot × Nat
  | [], slots, n => (slots, n)
  | b :: rest, slots, n =>
    match (slots.zipIdx.find? fun e => !e.1.used && decide (e.2 < maxSlots)) with
    | some e => placeBlobs maxSlots dilate t rest (slots.set e.2 (ReflexSlot.hold b.rect dilate t)) n
    | none =>
      match leastEnlarged slots b with
      | none => placeBlobs maxSlots dilate t rest slots n
      | some k =>
        placeBlobs maxSlots dilate t rest
          (slots.set k (ReflexSlot.hold (BinRect.join (slots.getD k ReflexSlot.reset).rect b.rect) dilate t)) (n + 1)

/-- Step 5 (R119): a slot not matched by this map is freed when its hold has run out. -/
def expireSlots (holdUs t : Nat) (slots : List ReflexSlot) : List ReflexSlot :=
  slots.map fun r => if r.used && r.matched != t && decide (r.matched + holdUs ≤ t) then ReflexSlot.reset else r

/-- The boxes in force have changed: EV034, and the REFLEX trigger or a render (R120, R217). -/
def State.reflexChanged (s : State) : State :=
  let n := (s.glare.slots.filter fun r => r.used).length
  let s1 := s.raise { ev := 34, data := u8 n }
  if s1.pwr.dev == .fallback then s1.fireRender else s1.fire .reflex

/-- One map is processed (R118 to R120). -/
def State.processMap (s : State) : State :=
  let old := s.glare.slots
  let t := s.sense.mapTstamp
  let dilate := s.mapParam 4
  let blobs := s.reflexBlobs
  let hit := blobs.filter fun b => !(matchedSlots old b).isEmpty
  let fresh := blobs.filter fun b => (matchedSlots old b).isEmpty
  let slots2 := mergeSlots dilate t (hit.map (matchedSlots old)) (matchSlots old hit dilate t) []
  let placed := placeBlobs (s.mapParam 6) dilate t fresh slots2 0
  let slots5 := expireSlots (1000 * s.mapParam 5) t placed.1
  let spill := decide (0 < placed.2)
  let s1 := s.onGlare fun g => { g with
    slots := slots5, mapWaiting := false, overflowRun := spill, overflow := if spill then inc32 g.overflow placed.2 else g.overflow }
  let s2 := if s1.reflexBoxes = s.reflexBoxes then s1 else s1.reflexChanged
  if spill && !s.glare.overflowRun then s2.raise { ev := 35, data := u32 s1.glare.overflow } else s2

/-- REFLEX_PROCESSING_DONE (R120): the map that waits is processed. -/
def execReflexProcessingDone (s : State) : Host.Outcome State Fault Refusal :=
  .next (if s.glare.mapWaiting && s.flag K.reflexEnable then s.processMap else s)

/-- REFLEX_HOLD_EXPIRY (R120): with no map arriving, a slot's hold runs out and the slot is freed. -/
def execReflexHoldExpiry (slot : Fin 16) (s : State) : Host.Outcome State Fault Refusal :=
  .next (if (s.glare.slots.getD slot.val ReflexSlot.reset).used && !s.sensing then
      (s.onGlare fun g => { g with slots := g.slots.set slot.val ReflexSlot.reset }).reflexChanged
    else s)

end Sys2Proof.Machine
end

