-- ==== Sys2Proof/Machine/CampionOps.lean ====
section
/-! DEFINITION. Campion: its staging copy and commits (R329), its images (R327), entering and leaving (R330, R331); and SYNC with the
staged commit (R298, R299). -/

namespace Sys2Proof.Machine

open Sys2Proof

/-! ### Images (R327) -/

/-- Campion's buffer takes the image that the staged BEAM selects; LOW and HIGH alone select one. -/
def State.loadImage (s : State) : State :=
  let beam := bits (s.par K.ph16kMode) 0 2
  if beam = 1 ∨ beam = 2 then
    match s.campionImage beam with
    | none => s.onComp fun c => { c with imgIndex := 255, imgData := [] }
    | some (i, d) => s.onComp fun c => { c with imgIndex := i, imgData := d }
  else s

/-! ### Campion commits by a write (R329) -/

/-- SYNC of the staged mode word is EXTERNAL (R329). -/
def State.syncExternal (s : State) : Bool := bitOf (s.par K.ph16kMode) 6

/-- An accepted write of the staging copy: it binds a Campion commit while Campion is on and SYNC is INTERNAL under the new value
(R329). -/
def State.campionStaged (s : State) : State :=
  let s1 := s.onComp fun c => { c with unbound := true }
  if s1.comp.campionOn && !s1.syncExternal then s1.bindCampion s1.campionTag .campion else s1

/-! ### Entering and leaving (R330, R331) -/

/-- A validated native commit that Campion finds waiting to be bound is refused as a COMMIT is while Campion is on (R330). -/
def State.refuseWaiting (s : State) (c : Commit) : State :=
  let s1 := s.onComp fun m => { m with refusedNative := inc32 m.refusedNative 1 }
  match c.source with
  | .vexlink seq _ bro => s1.nak bro seq 0x11 4 0
  | _ => s1

/-- A native commit in the pending slot is withdrawn and counted (R331). -/
def State.withdrawNative (s : State) : State :=
  match s.tim.pend with
  | some c =>
    if c.campion then s
    else (s.onTim fun t => { t with pend := none }).onComp fun m => { m with withdrawn := inc32 m.withdrawn 1 }
  | none => s

/-- Campion is entered (R330, R331). -/
def State.enterCampion (s : State) : State :=
  let waiting := s.tim.toBind
  let s1 := (s.onTim fun t => { t with toBind := [] }).withdrawNative
  let s2 := waiting.foldl State.refuseWaiting s1
  let s3 := s2.onComp fun m => { m with campionOn := true }
  let s4 := s3.applySigs ((upTo 16).map fun n => ⟨n, false, false, 0⟩)
  s4.bindCampion s4.campionTag .campion

/-- A pending Campion commit is withdrawn (R331). -/
def State.withdrawCampion (s : State) : State :=
  match s.tim.pend with
  | some c => if c.campion then s.onTim fun t => { t with pend := none } else s
  | none => s

/-- Campion is left: a refresh of the native binding is triggered (R331). -/
def State.leaveCampion (s : State) : State :=
  (s.withdrawCampion.onComp fun m => { m with campionOn := false }).fire .native

/-- An accepted value of COMPAT_ENABLE (R331). -/
def State.setCampion (s : State) (on : Bool) : State :=
  if on = s.comp.campionOn then s else if on then s.enterCampion else s.leaveCampion

/-! ### SYNC (R299, R329) -/

/-- Whether a commit bound by SYNC is taken in the present state (R299). -/
def State.syncTakes (s : State) : Bool := s.pwr.dev == .ready || s.pwr.dev == .lit || s.pwr.dev == .fallback

/-- The staged commit is cleared (R299). -/
def State.clearStage (s : State) : State := s.onCan fun c => { c with stage := none, stageCommit := none }

/-- A SYNC of the module's group binds the staged commit, or under Campion with SYNC EXTERNAL a Campion commit (R299, R329). -/
def State.syncFrame (s : State) (tag : Nat) : State :=
  if s.comp.campionOn then
    if !s.syncExternal then s
    else if !s.syncTakes then s.commitResult tag 4
    else s.bindCampion tag .sync
  else match s.can.stageCommit with
    | none => s
    | some c =>
      if !s.syncTakes then s.clearStage.commitResult tag 4
      else s.clearStage.bindCommit { c with tag := tag, source := .sync }

end Sys2Proof.Machine
end

