-- ==== Sys2Proof/Machine/BootOps.lean ====
section
/-! DEFINITION. Whole-module resets and their release (R364, R369, R371, R372), boot (R316, R365, R367, R376, R393), PARK (R354,
R355, R362), the wake sources (R361), and the reconstruction of TSTAMP (R343). -/

namespace Sys2Proof.Machine

open Sys2Proof

/-! ### Time across a stop of REFCLK (R343, R350) -/

/-- REFCLK runs again: TSTAMP is reconstructed from the slow count since the stop (R343). -/
def State.startRefclk (s : State) : State :=
  if s.pwr.refclk then s
  else
    let n := s.pwr.slow - s.pwr.stopSlow
    let s1 := s.onPwr fun p => { p with refclk := true, tstamp := (p.stopTstamp + (n * 15625 + 256) / 512) % 2 ^ 64 }
    s1.onMgmt fun m => { m with reconstructed := true }

/-- REFCLK stops: TSTAMP and the slow count are captured (R343). -/
def State.stopRefclk (s : State) : State :=
  s.onPwr fun p => { p with refclk := false, stopTstamp := p.tstamp, stopSlow := p.slow }

/-! ### Slots (R367, R383, R386) -/

/-- ROLLBACK in a slot record (Table 20-4). The factory's slot record stands as the empty string. -/
def Slot.rollbackValue (y : Slot) : Nat := if y.header.isEmpty then Config.fwRollback else field y.header 12 4

/-- The chunk in which the verification of a slot's image failed; 0xFFFF when the failure is not in a chunk (R424). -/
def StoredImages.chunk (images : StoredImages) (b : Bool) : Nat :=
  match if b then images.bChunk else images.aChunk with
  | some c => c.val
  | none => 0xFFFF

/-- Whether the boot ROM starts the image in a slot: the slot record is readable and holds an image that may run, its ROLLBACK is not
below the counter, and the stored image passes verification (R367, R383, R386). -/
def State.slotBoots (s : State) (images : StoredImages) (b : Bool) : Bool :=
  let y := s.slotOfBank b
  (y.state == .staged || y.state == .active) && y.recorded.value.isSome && decide (s.flash.rollback ≤ y.rollbackValue) &&
    !(if b then images.bFails else images.aFails)

/-- `s` with a slot modified. -/
def State.onSlot (s : State) (b : Bool) (f : Slot → Slot) : State :=
  s.onRally fun r => if b then { r with slotB := f r.slotB } else { r with slotA := f r.slotA }

/-- RALLY_STATE outside a hand-over and probation: STAGED while a slot holds a staged image (R384, R388). -/
def Rally.restPhase (r : Rally) : RallyPhase := if r.slotA.state == .staged || r.slotB.state == .staged then .staged else .idle

/-! ### What a reset leaves (R369, R377, R384, R393) -/

/-- Rally after a whole-module reset: slots and COLD_PENDING are kept, an open transfer has ended, and a hand-over or probation in
progress has ended REVERTED with reason RESET (R384, R393). -/
def State.rallyFresh (s : State) : Rally :=
  let r := s.rally
  let ended := r.phase == .handover || r.phase == .probation
  let y := { Rally.reset with
    slotA := r.slotA.reloaded, slotB := r.slotB.reloaded, coldPending := r.coldPending, fromVersion := r.fromVersion, toVersion := r.toVersion
    outcome := if ended then 3 else 0, reason := if ended then 7 else 0, outcomeAt := if ended then s.now else 0
    outcomeCold := ended && r.coldRun, bankB := r.bankB }
  { y with phase := y.restPhase }

/-- What MGMT and the switched domains hold when they power up: reset values, beside the content of flash, of AON, the model's traces,
and what is outside them: the stream latched in the chain's external drivers (R407) and the test access port (R316, R317, R374, R377). Flash writes in progress are interrupted, with the copies as they were. -/
def State.blank (s : State) : State :=
  { State.reset with
    pending := s.pending
    free := s.free
    flash := { s.flash with
      due := [], aDone := [], failedOnce := [], storing := [], fbNew := [], canAddrLast := s.flash.addrLast.value
      unlockCount := s.flash.unlocks.value.getD 0, severities := s.flash.severityRecs.value.getD [] }
    aux := { Aux.reset with latched := s.aux.latched }
    tap := s.tap
    vex := { Vex.reset with out := s.vex.out }
    can := { Can.reset with out := s.can.out, svcResp := s.can.svcResp }
    mgmt := { Mgmt.reset with prevRole := s.mgmt.prevRole, reconstructed := s.mgmt.reconstructed }
    therm := { Thermal.reset with recSeq := match s.flash.thermLog.getLast? with
      | some b => (field b 4 2 + 1) % 65536
      | none => 0 }
    pwr := s.pwr
    rally := s.rallyFresh }

/-- A reset cause's place in the order of R371, the highest first. -/
def ResetCause.rank : ResetCause → Nat
  | .por => 5 | .brownOut => 4 | .watchdog => 3 | .resetN => 2 | .dictionary => 1 | .rallyRevert => 0

/-- The higher of two causes (R371). -/
def higherCause (a b : ResetCause) : ResetCause := if a.rank < b.rank then b else a

/-- Whether a cause clears TSTAMP (R342, Table 19-3). -/
def ResetCause.clears (c : ResetCause) : Bool := c == .por || c == .brownOut

/-- The whole module is held in reset (R369): every zone switch is open, VLED off, every domain but AON reset.
The overvoltage hold of the power stage goes on while VIN is above its limit (R413), and LOCKSTEP while the cause recorded is that WATCHDOG's
(R338). -/
def State.assertReset (s : State) (c : ResetCause) : State :=
  let holding := s.pwr.life == .inReset
  let p := s.pwr
  let cleared := c.clears
  let s1 := s.blank
  let cause := if holding then higherCause p.lastReset c else c
  { s1 with
    sup := { s1.sup with ovHold := s.sup.ovHold && !cleared }
    mgmt := { s1.mgmt with lockstep := s.mgmt.lockstep && holding && cause == .watchdog }
    pwr := { Power.reset with
      life := .inReset
      held := if holding then enumAdd p.held c else [c]
      lastReset := cause
      vinMv := p.vinMv, crystal := p.crystal && c != .por, role := p.role, bootStrap := p.bootStrap, refsel := p.refsel
      refclk := p.refclk && !cleared, tstamp := if cleared then 0 else p.tstamp
      slow := if c = .por then 0 else p.slow, slowAcc := if c = .por then 0 else p.slowAcc
      stopTstamp := p.stopTstamp, stopSlow := p.stopSlow, lightOn := p.lightOn, limpLow := p.limpLow } }

/-- The last source has let go: the straps are sampled, REFCLK runs, and the boot begins, or the service loader under the BOOT strap
(R364, R367, R372). TSTAMP starts from 0 after POR and brown-out (R342). -/
def State.leaveReset (s : State) (k : Straps) : State :=
  let s1 := if s.pwr.lastReset.clears then s.onPwr fun p => { p with refclk := true, tstamp := 0 } else s.startRefclk
  s1.onPwr fun p => { p with
    life := if k.boot then .loader else .booting
    role := k.role.val, bootStrap := k.boot, refsel := k.refsel, readyAt := s1.now, releasedAt := s1.now }

/-- Sources let go of the reset; it is released when none holds it (R364, R371). -/
def State.releaseHeld (s : State) (gone : ResetCause → Bool) (k : Straps) : State :=
  if s.pwr.life ≠ .inReset then s
  else
    let s1 := s.onPwr fun p => { p with held := p.held.filter fun c => !gone c }
    if s1.pwr.held.isEmpty then s1.leaveReset k else s1

/-! ### Loading at boot and at a resume (R316, R321, R376) -/

/-- The RWP objects take the values that PERSIST holds, the others of them their defaults; without a good copy all have their defaults, which
are committed at once (R316). An absent PERSIST is named in a SYSTEM record (R282). -/
def State.loadPersist (s : State) : State :=
  let s := s.onDict fun d => { d with vals := d.vals.filter fun e => !isRwp e.1, doms := d.doms.filter fun e => !isRwp e.1 }
  match s.flash.persisted.newest PersistRecord.gen with
  | some ⟨gen, vals, doms⟩ => s.onDict fun d => { d with
      gen := gen, vals := vals.foldl (fun m e => setPar m e.1 e.2) d.vals, doms := doms.foldl (fun m e => kvSet m e.1 e.2) d.doms }
  | none =>
    let s1 := s.requestCommit
    if s.flash.persisted.lost then s1 else s1.absentRecord 0

/-- The calibration store is loaded from its flash records, or takes the stated substitutes (R43 to R45, R282, R376). -/
def State.loadCal (s : State) : State :=
  let zones := ((upTo 512).map fun z => (s.flashZone z).getD (s.substituteZone z)).flatten
  let head := s.flashHeader.getD s.substituteHeader
  let cal0 := calWrite (calWrite [] 0x140000 zones) 0x148000 head
  let cal1 := putGp cal0 (s.flash.gp.value.getD [])
  let cal2 := putDefects cal1 (match s.flash.defects.value with
    | some l => l
    | none => s.factoryMap)
  let s1 := s.onChk fun c => { c with cal := cal2 }
  let s2 := s1.onDict fun d => { d with
    substituted := (if s.flash.gp.value.isNone then [0] else []) ++ if s.flash.defects.value.isNone then [1] else [] }
  { s2 with free := s2.free + 1 }.sealDefects

/-- ZONE_IREF is seeded from the zone records where PERSIST holds no value for it (R321). -/
def State.seedIref (s : State) : State :=
  match kvGet s.dict.doms K.zoneIref with
  | some _ => s
  | none => s.putDom K.zoneIref ((upTo 512).map fun z => BitVec.ofNat 8 (s.irefDefault z))

/-- Surface 0 is loaded from flash and verified: VALID, or FAULTY without a good copy (R94). -/
def State.loadSurface0 (s : State) : State :=
  match s.flash.surface0.value with
  | some bs =>
    let cells := cellsOf 0 (bs.take 65536)
    (s.onSurf fun m => { m with mem := cells ++ (memClear m.mem 0 65536) }).onSurface 0 fun u => { u with
      phase := .valid, gen := inc32 u.gen 1, sealActual := crc32cMem cells 0 65536, lastError := 0, needsCheck := false }
  | none => s.onSurface 0 fun u => { u with phase := .faulty, lastError := 1, needsCheck := false }

/-- K_INT and K_SVC as the key record holds them; without a good copy the module has no key the spec states: free bytes (log 8). -/
def State.loadKeys (s : State) : State :=
  match s.flash.keys.value with
  | some k => s.onFlash fun f => { f with kInt := k.1, kSvc := k.2 }
  | none =>
    let (d, s1) := s.drawUnstated 64
    s1.onFlash fun f => { f with kInt := d.take 32, kSvc := d.drop 32 }

/-- CROSS_LIST is loaded; an absent one is named in a SYSTEM record (R202, R282). -/
def State.loadCross (s : State) : State :=
  match s.flash.crossList.value with
  | some l => s.onFlt fun f => { f with cross := l }
  | none => if s.flash.crossList.lost then s else s.absentRecord 7

/-- CAN_ADDR_LAST, UNLOCK_COUNT, EV_SEVERITY and the slot records found absent are each named in a SYSTEM record; R424 gives the first three no
code: free bytes (R282, log 8). -/
def State.noteAbsent (s : State) : State :=
  let note (s : State) (absent : Bool) (code : Nat) : State :=
    if absent then
      let (d, s1) := s.recordItem code
      s1.systemRecordWith d
    else s
  let s1 := note (note (note s s.flash.addrLast.absent 15) s.flash.unlocks.absent 16) s.flash.severityRecs.absent 17
  note (note s1 s.rally.slotA.recorded.absent 12) s.rally.slotB.recorded.absent 13

/-- The values that objects bring into force at a boot or a resume (R30, R51, R65, R66, R114, R147, R331, R366). -/
def State.loadInForce (s : State) : State :=
  let s1 := s.onTim fun t => { t with
    minCyc := s.par K.frameMin, maxCyc := s.par K.frameMax, lineMatch := s.par K.lineMatch, policy := s.par K.commitPolicy,
    underPolicy := s.par K.underrunPolicy, served := s.par K.frameMin }
  let s2 := s1.onSense fun e => { e with n := s.par K.senseInterval }
  let s3 := s2.onGlare fun g => { g with
    kdEnable := s.flag K.kdEnable
    wins := (upTo 16).map fun n =>
      let p := s.parN 0x2440 n
      ⟨p K.winX0, p K.winY0, p K.winX1, p K.winY1, p K.sigMode⟩ }
  let s4 := s3.onZones fun i z => { z with slot := s.slotOf i }
  let s5 := s4.onComp fun c => { c with campionOn := s.flag K.compatEnable }
  s5

/-- The CAN address of a module (R288): fixed, or under AUTO the stored one, else ROLE. -/
def State.bootAddr (s : State) : Nat :=
  let a := s.par K.canAddr
  if a = 0xFF then s.flash.canAddrLast.getD s.pwr.role else a


/-- The records found unrecoverable while loading, by RECORD code in ascending order (R282, R424). -/
def State.lostRecords (s : State) : List Nat :=
  let f := s.flash
  let single : List (Nat × Bool) := [(0, f.persisted.lost), (1, f.gz.lost), (2, f.defects.value.isNone), (3, f.gp.value.isNone),
    (4, f.header.value.isNone), (5, f.surface0.value.isNone), (7, f.crossList.lost), (8, (s.fbImageValue 0).isNone),
    (9, (s.fbImageValue 1).isNone), (10, (s.fbImageValue 2).isNone), (11, (s.fbImageValue 3).isNone),
    (12, s.rally.slotA.recorded.lost), (13, s.rally.slotB.recorded.lost), (14, f.keys.value.isNone), (15, f.addrLast.lost),
    (16, f.unlocks.lost), (17, f.severityRecs.lost)]
  (single.filter fun e => e.2).map (·.1) ++ ((upTo 512).filter fun z => (s.flashZone z).isNone).map (0x100 + ·)

/-- EV119 of a record (R282, R424). -/
def State.raiseLost (s : State) (code : Nat) : State :=
  let (d, s1) := s.recordItem code
  s1.raise { ev := 119, data := d }

/-! ### Boot (R365, R367, R393) -/

/-- The bank that the boot ROM starts, and the slot it had to pass over (R367, R393): the staged slot where COLD_PENDING is set, else
the selected one; then the other. -/
def State.bootBank (s : State) (images : StoredImages) : Option (Bool × Option Bool) :=
  let want := if s.rally.coldPending then !s.flash.slotSelect else s.flash.slotSelect
  if s.slotBoots images want then some (want, none) else if s.slotBoots images (!want) then some (!want, some want) else none

/-- Rally at a boot: a cold activation that came from a reset enters PROBATION (R393); a staged image that does not verify is REJECTED. -/
def State.bootRally (s : State) (b : Bool) (failed : Option Bool) : State :=
  let cold := s.rally.coldPending
  let s1 := (s.fillBank b).onRally fun r => { r with bankB := b, coldPending := false }
  if !cold then s1
  else match failed with
    | none => s1.onRally fun r => { r with
        phase := .probation, coldRun := true, coldReset := true, fromVersion := (s.slotOfBank (!b)).version,
        toVersion := (s.slotOfBank b).version }
    | some w =>
      ((s1.onSlot w fun y => { y with state := .rejected }).writeDue (12 + b2n w)).onRally fun r => { r with
        phase := .idle, outcome := 2, reason := 8, outcomeAt := s.now, outcomeCold := true }

/-- EV120 with the cause of the latest reset, as STANDBY is first reached after it (R338). -/
def State.raiseBootReport (s : State) : State :=
  let cause := match s.pwr.lastReset with
    | .por => 0 | .brownOut => 1 | .resetN => 2 | .watchdog => 3 | .dictionary => 4 | .rallyRevert => 5
  let s1 := s.raise { ev := 120, data := u8 cause ++ u8 (b2n s.mgmt.lockstep) ++ u8 (b2n s.rally.bankB) ++ u32 s.flash.bootCount }
  s1.onMgmt fun m => { m with lockstep := false, reportDue := false }

/-- The reports of a boot, in ascending event number (R44, R199, R282, R337, R338, R367, R392). -/
def State.reportBoot (s : State) (failed : Option Bool) (images : StoredImages) : State :=
  let s1 := (s.judgeCal.judgeHealth).judgeStormsSince Faults.reset.counts
  let r := s1.rally
  let s2 := if r.outcome = 3 ∧ r.reason = 6 then
      s1.raise { ev := 115, data := u8 6 ++ u32 r.fromVersion ++ u32 r.toVersion } else s1
  let s3 := match failed with
    | some w => s2.raise { ev := 116, data := u8 (b2n w) ++ u16 (StoredImages.chunk images w) }
    | none => s2
  (s3.lostRecords.foldl State.raiseLost s3).raiseBootReport

/-- ROLE is logged where it differs from the previous boot's (R372). -/
def State.noteRole (s : State) : State :=
  let s1 := match s.mgmt.prevRole with
    | some r => if r = s.pwr.role then s else s.systemRecord
    | none => s
  s1.onMgmt fun m => { m with prevRole := some s.pwr.role }

/-- The domains of STANDBY after a boot: AUX where AUX_ENABLE is not OFF (Table 18-2). -/
def State.bootDomains (s : State) : State := if s.auxWanted then s.auxUp else s

/-- Zone gains and sources are seeded from GZ_STORE or its substitute; EMIT is not powered yet (R173, R376). An absent GZ_STORE is named
in a SYSTEM record (R282). -/
def State.seedAtBoot (s : State) : State :=
  let s1 := s.loadStored.seedZones.onSup fun u => { u with gzHeld := false }
  if s.flash.gz.absent then s1.absentRecord 1 else s1

/-- Firmware loads its records and seeds what Table 19-5 names (R365, R376). -/
def State.loadAll (s : State) : State :=
  let s1 := s.loadPersist.loadCal
  let s2 := s1.seedIref.loadSurface0
  (s2.loadKeys.loadCross.loadInForce.onDict fun d => { d with dataRate := s2.par K.canDataRate }).noteAbsent.seedAtBoot

/-- BOOT_COUNT counts a boot that starts firmware (R371): with the first service of the watchdog, or else when firmware has initialised;
once per boot. -/
def State.countBoot (s : State) : State :=
  if s.pwr.life == .booting && s.mgmt.wdLast.isNone then s.onFlash fun f => { f with bootCount := inc32 f.bootCount 1 } else s

/-- The entry to STANDBY at the end of a boot (R365, R367, R368, R376). `reread` are the copies of records that passed their second look only. -/
def State.bootInto (s : State) (b : Bool) (failed : Option Bool) (images : StoredImages) (reread : List (RecordId × CopyId)) : State :=
  let s1 := s.bootRally b failed
  let s2 := s1.countBoot
  let s3 := s2.onPwr fun p => { p with life := .running, dev := .standby, readyAt := s.now, alarmDone := false }
  let s4 := s3.loadAll
  let s5 := s4.bootDomains.onCan fun c => { c with addr := s4.bootAddr }
  ((s5.noteRole.rereadCopies (fun _ => true) reread).reportBoot failed images).drivePins

/-- The whole of BOOT_COMPLETE: STANDBY, and with LIMP_N low the fallback beam (R368); without an image that verifies, the service loader
(R367). -/
def State.bootUp (s0 : State) (p : LightPins) (images : StoredImages) (reread : List (RecordId × CopyId)) : State :=
  let s := s0.pins p
  match s.bootBank images with
  | none => s.onPwr fun q => { q with life := .loader }
  | some (b, failed) =>
    let s1 := s.bootInto b failed images reread
    if s1.pwr.limpLow then s1.engage .limpN else s1

/-! ### Crash and revert (R334, R371, R392, R393) -/

/-- A RALLY_REVERT reset is triggered, with its reason in the AON register (R392). -/
def State.beginRevert (s : State) (reason : Nat) : State :=
  (s.onRally fun r => { r with
    phase := .handover, reason := reason, hbHeld := if r.hbHeld.isNone then some (s.pwr.dev.num, s.flt.health) else r.hbHeld }).onPwr fun p => { p with held := enumAdd p.held .rallyRevert }

/-- Yarrow has crashed: a WATCHDOG reset; in a hand-over a refusal with reason TIMEOUT, in probation a revert (R334, R391, R392). A cold
activation that came from a whole-module reset boots the old slot again, with the staged one REJECTED (R393). -/
def State.crash (s : State) (lockstep : Bool) : State :=
  if s.pwr.held.contains .rallyRevert ∨ (s.rally.phase ≠ .handover ∧ s.rally.phase ≠ .probation) then
    (s.assertReset .watchdog).onMgmt fun m => { m with lockstep := lockstep }
  else if s.rally.phase = .handover then s.beginRevert 5
  else if s.rally.coldReset then
    let s1 := (s.assertReset .watchdog).onMgmt fun m => { m with lockstep := lockstep }
    let s2 := (s1.onSlot s.rally.bankB fun y => { y with state := .rejected }).writeDue (12 + b2n s.rally.bankB)
    s2.onRally fun r => { r with phase := .idle, reason := 6, outcomeCold := true }
  else s.beginRevert 6

/-- Whether Yarrow runs and its watchdog with it: not in reset and not in PARK (R334). -/
def State.yarrowRuns (s : State) : Bool := s.pwr.life != .inReset && s.pwr.life != .parked

/-- A service of the watchdog (R334): the first within 60 ms of the release of reset, the others from 2 ms to 20 ms after the one
before; one outside its window is a crash. While the window is held open every service is in time. -/
def State.serviceWatchdog (s : State) : State :=
  let good := s.mgmt.wdHeld || match s.mgmt.wdLast with
    | none => decide (s.now ≤ s.pwr.releasedAt + 60000)
    | some t => decide (t + 2000 ≤ s.now) && decide (s.now ≤ t + 20000)
  if good then s.onMgmt fun m => { m with wdLast := some s.now } else s.crash false

/-! ### Entry to PARK (R354, R362, R425) -/

/-- Whether the timer wake source is armed: enabled, WAKE_ALARM_S not 0, and not fired since the entry (R361). -/
def State.alarmArmed (s : State) : Bool := bitOf (s.par K.wakeEnable) 4 && s.par K.wakeAlarm != 0 && !s.pwr.alarmDone

/-- The enabled ones of them; LIMP_N is always enabled, and the timer fires only while it is armed (R361). -/
def State.enabledWakes (s : State) (w : WakeBits) : List Nat :=
  (wakeList w).filter fun b => b == 2 || (if b = 4 then s.alarmArmed else bitOf (s.par K.wakeEnable) b)

/-- Whether an accepted PARK request has not come to SLEEP_GO yet, in STANDBY (R362). -/
def State.parking (s : State) : Bool :=
  s.pwr.dev == .standby && match s.pwr.trans with
    | some t => t.steps.contains .park
    | none => false

/-- The levels of the light-request pins at an AON sampling: those sampled, else what the fired sources show (R361, R415). -/
def State.wakePins (s : State) (w : WakeBits) (levels : Option LightPins) : State :=
  match levels with
  | some p => s.pins p
  | none => s.onPwr fun p => { p with lightOn := p.lightOn || w.lightOn, limpLow := p.limpLow || w.limpN }

/-- A wake wins over the sleep entry (R362): SLEEP_GO is not taken and the module stays in STANDBY. -/
def State.abortSleep (s : State) (bits : List Nat) : State :=
  let s1 := s.onPwr fun p => { p with
    trans := none, sleepDue := false, sleepResult := 2, wakeCause := bits, alarmDone := p.alarmDone || bits.contains 4 }
  let s2 := s1.raise { ev := 113, data := u8 (bitsNat bits), slowStamp := true }
  if bits.contains 5 then s2.linkUp else s2

/-- The end of every session stops injection where one was an INTEGRATOR session (R179, R306). -/
def State.endIntegrator (s : State) : State :=
  if s.mgmt.can.level == .integrator || s.mgmt.vexlink.level == .integrator || s.mgmt.svc.level == .integrator then s.stopInjection 1 else s

/-- SLEEP_GO is taken (R306, R350, R354, R356, R358, R362, R425): every session ends, every switched domain powers down and then MGMT, REFCLK
stops, the pending commit is discarded and every host box slot disabled. -/
def State.sleep (s : State) : State :=
  let s1 := s.endIntegrator.powerNone.sequenced none powerDownSteps
  let s2 := s1.onPwr fun p => { p with
    life := .parked, dev := .park, trans := none, sleepDue := false, sleepResult := 1, alarmDone := false, onDemand := [], readyAt := s.now }
  let s3 := (s2.onTim fun t => { t with pend := none, toBind := [] }).onGlare fun g => { g with hostBoxes := List.replicate 32 Box.off }
  let s4 := s3.onMgmt fun m => { m with
    can := { m.can with level := .user, challenge := none }, vexlink := { m.vexlink with level := .user, challenge := none },
    svc := { m.svc with level := .user, challenge := none } }
  ((s4.onFlt fun f => { f with faultN := false }).stopRefclk).drivePins

/-- The SLEEP_GO edge, with the sources that have fired at it and the levels of the light-request pins (R362, R415). -/
def State.sleepGo (s : State) (w : WakeBits) (levels : Option LightPins) : State :=
  if !s.pwr.sleepDue then s
  else
    let bits := s.enabledWakes w
    if bits.isEmpty then (s.wakePins w levels).sleep else (s.wakePins w levels).abortSleep bits

/-! ### Wake (R343, R355, R361) -/

/-- Wake sources have fired, those enabled of them given: in PARK the module begins its resume; in STANDBY a sleep entry is aborted, or
the sources are recorded and act as Table 18-7 says. -/
def State.wakeBy (s : State) (bits : List Nat) : State :=
  if bits.isEmpty then s
  else if s.pwr.life = .parked then
    let s1 := s.startRefclk
    s1.onPwr fun p => { p with
      wakeCause := if s.pwr.refclk then bits.foldl setAdd p.wakeCause else bits
      wakeAt := if s.pwr.refclk then p.wakeAt else s1.now }
  else if s.pwr.life ≠ .running ∨ s.pwr.dev ≠ .standby then s
  else if s.parking then s.abortSleep bits
  else
    let s1 := s.onPwr fun p => { p with wakeCause := bits, alarmDone := p.alarmDone || bits.contains 4 }
    let s2 := if bits.contains 4 then s1.raise { ev := 112, data := u8 (bitsNat bits) } else s1
    if bits.contains 5 then s2.linkUp else s2

/-! ### Resume from PARK (R103, R355) -/

/-- What AON and the update slots keep through PARK, with everything else as at power-up (R352, R355). A resume is no reset: what holds until
a reset is kept (R142, R156, R175, R207, R211), bus-off with its recoveries, its error counts and a muted address among it (R302, R303),
CAN_DATA_RATE in force stays (R285), MAP_SEQ, PATTERN_SEQ and the overvoltage hold go on (R143, R145, R413), pending second looks and the
following-error runs wait on where their subject is still there (R175, R198), near status waits for its samples (R182), the
controller-shutdown form of SAFE_DARK stays (R349), OPEN_MAP and POL_INV are kept (R234, R400). The runs of wide passes and of decode errors
and the last good bindings start afresh (R81, R83, R85; log 18). -/
def State.resumeBase (s : State) : State :=
  let f := s.blank
  { f with
    rally := s.rally
    flt := { f.flt with
      health := if s.flt.health = 2 then 2 else 0, faultN := s.flt.health == 2 || !s.flt.reactions.isEmpty, faultAcked := s.flt.faultAcked
      reactions := s.flt.reactions, looks := s.flt.looks }
    sense := { f.sense with adcLook := s.sense.adcLook, adcFaulty := s.sense.adcFaulty, mapSeq := s.sense.mapSeq, seq := s.sense.seq }
    chk := { f.chk with looks := s.chk.looks }
    glare := { f.glare with guardLooks := s.glare.guardLooks, sigLooks := s.glare.sigLooks, intLooks := s.glare.intLooks }
    dict := { f.dict with dataRate := s.dict.dataRate }
    can := { f.can with
      muted := s.can.muted, clashes := s.can.clashes, busOff := s.can.busOff, recoveredAt := s.can.recoveredAt, tecErr := s.can.tecErr
      recErr := s.can.recErr }
    aux := { f.aux with openLooks := s.aux.openLooks, openMap := s.aux.openMap, look := s.aux.look, heldBlank := s.aux.heldBlank }
    sup := { f.sup with
      pmeasLook := s.sup.pmeasLook, ovHold := s.sup.ovHold
      phases := f.sup.phases.mapIdx fun k p =>
        let q := s.sup.phases.getD k p
        { p with healthy := q.healthy, limitLook := q.limitLook, startLook := q.startLook } }
    zones := f.zones.mapIdx fun i z => { z with
      lookNormal := (s.zone i).lookNormal, lookOpen := (s.zone i).lookOpen, degraded := (s.zone i).degraded, rho := (s.zone i).rho
      feTimer := (s.zone i).feTimer, feFirst := (s.zone i).feFirst, fePending := (s.zone i).fePending }
    tim := { f.tim with diverged := s.tim.diverged }
    vex := { f.vex with
      crcLooks := s.vex.crcLooks
      lanes := f.vex.lanes.mapIdx fun k l => { l with polInv := ((s.vex.lanes[k]?).map Lane.polInv).getD l.polInv } }
    therm := { f.therm with
      shutCause := s.therm.shutCause, shutKinds := s.therm.shutKinds, restart := s.therm.restart
      ctrlOff := s.therm.ctrlOff
      diodes := f.therm.diodes.mapIdx fun k d =>
        let q := s.therm.diodes.getD k d
        { d with look := q.look, shutLook := q.shutLook, near := q.near, below := q.below }
      zones := f.therm.zones.mapIdx fun i z =>
        let q := s.therm.zones.getD i z
        { z with look := q.look, shutLook := q.shutLook, near := q.near, below := q.below } }
    pwr := { s.pwr with
      life := .running, dev := .standby, trans := none, onDemand := [], alarmDone := false, readyAt := s.now, releasedAt := s.now } }

/-- The surfaces after PARK (R103): with PARK_RETAIN they keep their content and VALID ones are to be checked, else they are EMPTY. -/
def State.resumeSurfaces (s old : State) : State :=
  if old.flag K.parkRetain then
    s.onSurf fun m => { m with
      mem := old.surf.mem
      surf := old.surf.surf.map fun u => { u with needsCheck := u.phase == .valid, answer := none } }
  else s

/-- The PARK image is restored (R354, R355): RW values, LOG_READ_INDEX and
COMMIT_STAGE among them, addresses, latched events and zones held open. -/
def State.restoreImage (s : State) (i : ParkImage) : State :=
  let s1 := s.onDict fun d => { d with
    vals := i.vals.foldl (fun m e => setPar m e.1 e.2) d.vals, doms := i.doms.foldl (fun m e => kvSet m e.1 e.2) d.doms }
  let s2 := s1.onVex fun v => { v with addr := i.addr, epoch := i.epoch }
  let s3 := (s2.onCan fun c => { c with addr := i.canAddr, stage := i.stage, stageCommit := i.stageCommit }).onMgmt fun m => { m with
    latched := i.latched
    can := { m.can with logIndex := i.logIndex.getD 0 0 }
    vexlink := { m.vexlink with logIndex := i.logIndex.getD 1 0 }
    svc := { m.svc with logIndex := i.logIndex.getD 2 0 } }
  s3.onZones fun z q => { q with
    stuckHold := i.stuckHold.contains z, stuckLook := i.stuckLook.contains z
    causes := q.causes ++ (if i.hostOpen.contains z then [.host] else []) ++ if i.faultOpen.contains z then [.fault] else [] }

/-- What the PARK image brings; without a good copy every RW object keeps its reset value (R355). -/
def State.restorePark (s : State) : State :=
  match s.flash.park.value with
  | some i => s.restoreImage i
  | none => (s.onCan fun c => { c with addr := s.bootAddr }).onFlt fun f => { f with reactions := f.reactions.filter (512 ≤ ·) }

/-- VALID surfaces retained through PARK, and surfaces being verified, are scanned once COMP is powered (R100, R103). -/
def State.requestChecks (s : State) : State :=
  (upTo 64).foldl (fun s n =>
    let u := s.surface n
    if u.needsCheck then s.requestScan ⟨.scrubSurf n, 0, s.surfLen n⟩
    else if u.phase = .verifying then s.requestScan ⟨.verify n, 0, s.surfLen n⟩ else s) s

/-- The events of a resume in ascending number (R337): EV067 and EV087 for what loading has found, EV088 for what its TRANSIENT results bring,
EV112 with the time that AON stamped,
and EV119 for the records without a good copy, the PARK image among them (R44, R282, R343, R355). -/
def State.reportResume (s : State) (wake : Nat) : State :=
  let s1 := (s.judgeCal.judgeHealth).judgeStormsSince Faults.reset.counts
  let s2 := s1.raise { ev := 112, data := u8 wake, slowStamp := true, stamp := some s.pwr.wakeAt }
  let codes := s2.lostRecords
  let park := if s.flash.park.value.isNone then [6] else []
  (codes.filter (· < 6) ++ park ++ codes.filter (6 < ·)).foldl State.raiseLost s2

/-- MGMT has powered up (R356), Yarrow resumes from PARK and the module is in STANDBY (R103, R263, R306, R343, R355). The upstream counts as lost, so that LOSS_SEEN
is set at the first UP. With LIMP_N low the fallback beam engages (Tables 10-7 and 18-9). -/
def State.resume (s : State) (reread : List (RecordId × CopyId)) : State :=
  let s1 := ((s.resumeBase.sequenced none powerUpSteps).resumeSurfaces s).loadPersist
  let s2 := s1.restorePark.loadCal
  let s3 := if s.flag K.parkRetain then s2.seedIref else s2.seedIref.loadSurface0
  let s4 := (s3.loadKeys.loadCross.loadInForce.noteAbsent.seedAtBoot).requestChecks
  let s5 := s4.onVex fun v => { v with lost := true, lostTimed := true }
  let s6 := (s5.bootDomains.linkUp.rereadCopies (fun _ => true) reread).reportResume (bitsNat s.pwr.wakeCause)
  let s7 := s6.queueStatus.drivePins
  if s7.pwr.limpLow then s7.engage .limpN else s7

end Sys2Proof.Machine
end

