-- ==== Sys2Proof/Machine/PowerOps.lean ====
section
/-! DEFINITION. Requested and automatic transitions between device states (R196, R209, R219, R351 to R353), their steps, the restart of
MGMT alone (R388, R392, R393), and RESET_CMD (R370). -/

namespace Sys2Proof.Machine

open Sys2Proof

/-! ### What a request asks for (Table 18-3) -/

/-- The states a path passes through, none where Table 18-3 does not accept the request. A module with SAFE_DARK causes recorded returns
to SAFE_DARK whatever takes it above STANDBY (R352). -/
def State.path (s : State) (t : DevState) : Option (List DevState) :=
  let back := !s.pwr.dark.isEmpty
  match s.pwr.dev, t with
  | .standby, .ready => some (if back then [.safeDark] else [.ready])
  | .standby, .lit => some (if back then [.safeDark] else [.ready, .lit])
  | .standby, .service => some (if back then [.safeDark] else [.service])
  | .standby, .park => some [.park]
  | .ready, .lit => some [.lit]
  | .ready, .standby => some [.standby]
  | .ready, .park => some [.standby, .park]
  | .ready, .service => some [.service]
  | .lit, .ready => some [.ready]
  | .lit, .standby => some [.ready, .standby]
  | .lit, .park => some [.ready, .standby, .park]
  | .service, .ready => some [.ready]
  | .service, .standby => some [.ready, .standby]
  | .service, .park => some [.ready, .standby, .park]
  | .fallback, .ready => some [.ready]
  | .fallback, .standby => some [.ready, .standby]
  | .fallback, .park => some [.ready, .standby, .park]
  | .fallback, .service => some [.ready, .service]
  | .safeDark, .ready => if s.darkAllows then some [.ready] else none
  | .safeDark, .lit => if s.darkAllows then some [.ready, .lit] else none
  | .safeDark, .standby => some [.standby]
  | .safeDark, .park => some [.standby, .park]
  | _, _ => none

/-- Light is requested by a pin, so that STANDBY and PARK are barred (R352). -/
def State.lightWanted (s : State) : Bool := s.pwr.limpLow || (s.pwr.lightOn && !s.flt.hostPresent)

/-- The request for LIT in FALLBACK (R196, R219): accepted with a host present where the THERMAL cause or no cause at all holds. -/
def State.litReleases (s : State) : Bool :=
  s.flt.hostPresent && (s.flt.fbCauses.isEmpty || s.flt.fbCauses.contains .thermal)

/-- Whether Table 18-3, R209 and R352 accept a request. -/
def State.requestAccepted (s : State) (t : DevState) : Bool :=
  if s.flt.health = 2 ∨ s.pwr.trans.isSome then false
  else if s.pwr.dev = t then true
  else if (t = .standby ∨ t = .park) ∧ s.lightWanted then false
  else if s.pwr.dev = .fallback then
    if t = .lit then s.litReleases else s.flt.fbCauses.isEmpty && (s.path t).isSome
  else (s.path t).isSome

/-- The error code and INFO of a STATE_REQUEST write, none where it is accepted: LEVEL for SERVICE below SERVICE level (R320), else
STATE with the DEV_STATE (R311, R351). -/
def State.requestError (s : State) (t : DevState) (level : Level) : Option (Nat × Nat) :=
  if t = .service ∧ level ≠ .service then some (3, 2)
  else if s.requestAccepted t then none else some (6, s.pwr.dev.num)

/-! ### Steps -/

/-- A step of a transition begins (Table 18-3, R155, R173, R314, R356). -/
def State.beginStep (s : State) (t : DevState) : State :=
  match t with
  | .ready => if s.pwr.dev == .standby || s.pwr.dev == .safeDark then s.powerAll else s.beginLeaveLight
  | .lit => s.beginLight []
  | .service => s.powerAll
  | .standby => (if s.pwr.dev == .safeDark then s else s.writeDue 1).requestCommit
  | .park => s.requestCommit
  | .safeDark => s.powerDark
  | .fallback => s

/-- A transition begins with the first of its steps; a PARK request sets SLEEP_RESULT to NONE (R362). -/
def State.beginSteps (s : State) (steps : List DevState) : State :=
  match steps with
  | [] => s.onPwr fun p => { p with trans := none }
  | t :: _ => (s.onPwr fun p => { p with trans := some ⟨steps⟩ }).beginStep t

/-- A present host's write of LIT ends the THERMAL cause and its hold (R196). -/
def State.grantThermal (s : State) : State :=
  if s.flt.fbCauses.contains .thermal then
    (s.onFlt fun f => { f with fbCauses := enumDel f.fbCauses .thermal }).onTherm fun t => { t with fbHold := false, restart := 0, shutCause := 0, shutKinds := [] }
  else s

/-- The accepted request for LIT in FALLBACK (R196, R219): the THERMAL cause and its hold end, and with every cause cleared the fallback
beam is released. -/
def State.grantLit (s : State) : State :=
  let s1 := s.grantThermal
  if s1.flt.fbCauses.isEmpty then s1.releaseToHost.judgeBudgets else s1

/-- An accepted request is carried out (R351). -/
def State.carryOut (s : State) (t : DevState) : State :=
  if s.pwr.dev = t then s
  else
    let s1 := if t = .park then s.onPwr fun p => { p with sleepResult := 0 } else s
    if s.pwr.dev = .fallback ∧ t = .lit then s1.grantLit
    else match s.path t with
      | some steps => (if t = .lit then s1.grantThermal else s1).beginSteps steps
      | none => s1

/-- The part of MGMT that a restart of MGMT alone does not carry over: levels, requests and transfers (R306, R388, R392, R393). What waited
behind them for the write queue may enter it (R99). -/
def State.mgmtRestart (s : State) : State :=
  let s1 := s.onMgmt fun m => { m with can := Access.reset, vexlink := Access.reset, svc := Access.reset, logReads := [], wdLast := none }
  ((s1.onCan fun c => { c with transfer := none }).onSurf fun m => { m with waiting := m.waiting.filter Waiting.isPacket }).admitAll

/-- The causes of the fallback beam that an image starts with: those given, with THERMAL as the hardware's hold has it (R196). -/
def State.startCauses (s : State) (l : List FbCause) : List FbCause :=
  if s.therm.fbHold then enumAdd l .thermal else enumDel l .thermal

/-- What an image that starts without a hand-over record does not have: what the sections of Table 20-7 carry. The address and the epoch
are the hardware's (R393, log 19). -/
def State.dropCarried (s : State) : State :=
  { s with
    mgmt := { s.mgmt with mismatches := 0, lockUntil := 0 }
    flt := { s.flt with
      hostPresent := false, beat := none, packet := none, upLost := false, hostLostRaised := false, fbCauses := s.startCauses [],
      renderHeld := false, looks := [] }
    vex := { s.vex with seq := 0, dupUni := [], dupBro := [], answers := [], copies := [], retx := [] }
    can := { s.can with answered := [], stage := none, stageCommit := none }
    dict := { s.dict with
      dirty := [], dirtySince := none, committing := false, commitAgain := false, storeDue := false, restoring := false, commitKeys := none }
    flash := { s.flash with due := [], aDone := [], failedOnce := [], storing := [], fbNew := [] }
    chk := { s.chk with looks := [] }
    surf := { s.surf with surf := s.surf.surf.map fun u => { u with looks := [], scrubLook := none } }
    rally := { s.rally with svcLooks := [] } }

/-- A cold activation begins: MGMT restarts in the new bank, which its slot's image has filled, without a record (R387, R393). -/
def State.beginCold (s : State) : State :=
  let s1 := (s.endIntegrator.abortTransfer 7).mgmtRestart
  let s2 := (s1.fillBank (!s.rally.bankB)).onRally fun r => { r with
    phase := .handover, coldPending := false, coldRun := true, coldReset := false, quiesced := s.now
    hbHeld := some (s.pwr.dev.num, s.flt.health)
    fromVersion := (s.slotOfBank r.bankB).version, toVersion := (s.slotOfBank (!r.bankB)).version }
  s2.dropCarried.onMgmt fun m => { m with wdHeld := true }

/-- With COLD_PENDING set, an entry to STANDBY performs the cold activation of the staged slot once the entry is complete, also where PARK
follows (R393). -/
def State.judgeCold (s : State) : State :=
  if s.rally.coldPending && (s.slotOfBank (!s.rally.bankB)).state == .staged then s.beginCold else s

/-- DEV_STATE reads STANDBY (R349, R356, R425). SAFE_DARK causes are kept (R352), and EV120 follows a reset that ended in another state
(R338). -/
def State.enterStandby (s : State) : State :=
  let s1 := s.onPwr fun p => { p with dev := .standby, readyAt := s.now, alarmDone := false }
  let s2 := s1.queueStatus.staleTemps.powerStandby
  let s3 := s2.judgeSensing.judgeHealth
  if s3.mgmt.reportDue then s3.raiseBootReport else s3

/-- DEV_STATE reads SERVICE, and VLED starts (R349, R350). -/
def State.enterService (s : State) : State :=
  let s1 := s.onPwr fun p => { p with dev := .service, readyAt := s.now }
  (s1.queueStatus.staleTemps.beginSoftStart).startPending

/-- A module that left SAFE_DARK for STANDBY or PARK is back in it (R352). -/
def State.enterDarkAgain (s : State) : State :=
  (s.onPwr fun p => { p with dev := .safeDark, readyAt := s.now }).queueStatus

/-- The fallback causes whose condition already holds as a state is reached from which the beam engages (Table 10-7). -/
def State.judgePins (s : State) : State :=
  let s1 := if s.pwr.limpLow then s.engage .limpN else s
  if s1.pwr.lightOn && s1.flt.hostLostRaised then s1.engage .lightOnNoHost else s1

/-- Whether a step's conditions are met: VLED at its target for LIT, GZ_STORE and PERSIST committed for STANDBY; the entry to PARK ends
with SLEEP_GO instead. -/
def State.stepReady (s : State) (t : DevState) : Bool :=
  match t with
  | .lit => s.sup.vledOn && !s.sup.softStart
  | .standby => !s.dict.committing && !s.flash.due.contains 0 && !s.flash.due.contains 1
  | .park => false
  | _ => true

/-- A step of a transition completes: DEV_STATE takes its value (R351). -/
def State.reach (s : State) (t : DevState) : State :=
  match t with
  | .ready => s.enterReady
  | .lit => s.enterLit
  | .service => s.enterService
  | .standby => s.enterStandby
  | .safeDark => s.enterDarkAgain
  | _ => s

/-- The step in progress completes, where it can, and the next one begins (R351). A transition that something else has ended stays
ended. A fallback cause that holds as READY, LIT or STANDBY is reached engages there (R218). -/
def State.completeStep (s : State) : State :=
  match s.pwr.trans with
  | none => s
  | some t =>
    match t.steps with
    | [] => s.onPwr fun p => { p with trans := none }
    | d :: rest =>
      if !s.stepReady d then s
      else
        let s1 := s.reach d
        let s2 := if d = .ready ∨ d = .lit ∨ d = .standby then s1.judgePins else s1
        if s2.pwr.trans.isNone ∨ s2.pwr.dev ≠ d then s2
        else
          (if d = .standby then s2.judgeCold else s2).beginSteps rest

/-! ### Moves without a request (R353) -/

/-- No host, no light requested, and no SVC session (R353). -/
def State.idleHost (s : State) : Bool :=
  !s.flt.hostPresent && !s.pwr.lightOn && !s.pwr.limpLow && s.mgmt.svc.level == .user && s.pwr.trans.isNone

/-- The module moves from a state without a request, and a SYSTEM record is written (R353). -/
def State.moveFrom (s : State) (d : DevState) (steps : List DevState) : State :=
  if s.up && s.pwr.dev == d && s.idleHost then
    let s1 := s.systemRecord
    (s1.onPwr fun p => { p with sleepResult := if steps.contains .park then 0 else p.sleepResult }).beginSteps steps
  else s

/-! ### RESET_CMD (R370) -/

/-- RESET_CMD has been answered: it waits for a commit in progress, then for the commit of dirty values. -/
def State.askReset (s : State) : State :=
  let s1 := s.onPwr fun p => { p with resetDue := true }
  if s.dict.dirty.isEmpty then s1 else s1.requestCommit

/-- The dictionary reset is asserted once no commit is in progress and no value is dirty. -/
def State.assertDictionaryReset (s : State) : State :=
  if !s.pwr.resetDue ∨ s.dict.committing then s
  else if s.dict.dirty.isEmpty then s.assertReset .dictionary else s.beginCommit

/-! ### Domains on demand (R357) -/

/-- A domain is powered down (R356). -/
def State.domainDown (s : State) : Domain → State
  | .link => s.linkDown | .comp => s.compDown | .scan => s.scanDown | .emit => s.emitDown | .aux => s.auxDown

/-- A domain woken on demand, in STANDBY or in the controller-shutdown form of SAFE_DARK, has had no access for 100 ms: it returns to its
state's setting (R357). -/
def State.idleDomain (s : State) (d : Domain) : State :=
  if (s.pwr.dev == .standby || s.ctrlDark) && s.pwr.onDemand.contains d && s.pwr.trans.isNone then
    (s.domainDown d).onPwr fun p => { p with onDemand := enumDel p.onDemand d }
  else s

end Sys2Proof.Machine
end

