-- ==== Sys2Proof/Machine/WriteChecks.lean ====
section
/-! DEFINITION. The checks of a write to the object dictionary, in their order (R311): existence, access, level, type, state, range,
and the refusals that rules of the objects' chapters and of R320 name. -/

namespace Sys2Proof.Machine

open Sys2Proof

/-! ### Check 4, TYPE (R293, R311) -/

/-- The LEN expected of a write whose form does not fit its object: a fixed-size value or DOMAIN is written with its size, and a block
write moves DOMAINs only. `size` is the size of a DOMAIN marked "offset". A block write longer than its DOMAIN is left to check 6. -/
def Obj.typeError (o : Obj) (size len : Nat) (block : Bool) : Option Nat :=
  if o.ty = .dom ∨ o.ty = .str then
    match o.range with
    | .whole lo hi => if lo = hi ∧ len ≠ lo ∧ ¬(block ∧ lo < len) then some lo else none
    | .offset _ _ => if block ∨ len = size then none else some size
    | _ => none
  else if block ∨ len ≠ o.ty.size then some o.ty.size
  else none

/-- The size of a DOMAIN marked "offset": SURF_SIZE for SURF_IMAGE as held writes leave it (log 42), else as its Range column gives it. -/
def State.offsetSize (s : State) (index : Nat) (o : Obj) : Nat :=
  match o.range with
  | .offset size _ => if blockBase index = 0x2310 then s.surfNext (index - 0x2310) K.surfSize else size
  | _ => 0

/-! ### Check 6, RANGE: DOMAINs (R44, R213, R312, R321, R398) -/

/-- Whether a zone record may be written for zone `z` (R44). -/
def zoneElementOk (z : Nat) (b : List Byte) : Bool :=
  field b 0 2 == z && decide (field b 3 1 < 4) && ((b.drop 24).take 36).all (· == 0) && sealHolds b && decide (field b 2 1 ≤ 63) &&
    decide (8192 ≤ field b 4 2) && decide (field b 4 2 ≤ 24576) && !(bitOf (field b 3 1) 0 && decide (0 ≤ fieldI16 b 8))

/-- Whether a fallback image record may be written as image `i` (Table 10-6). -/
def fbRecordOk (i : Nat) (b : List Byte) : Bool :=
  field b 0 4 == 0x4642494D && field b 4 2 == 1 && field b 6 1 == i && ((b.drop 16).take 44).all (· == 0) && sealHolds (b.take 64) &&
    crc32c (b.drop 64) == field b 12 4

/-- Whether every byte is at most a limit. -/
def bytesUpTo (limit : Nat) (b : List Byte) : Bool := b.all fun x => decide (x.toNat ≤ limit)

/-- Whether every element of a write to a DOMAIN is good (R312). -/
def elementsOk (key off : Nat) (data : List Byte) : Bool :=
  if key = K.calZones then (upTo (data.length / 64)).all fun i => zoneElementOk (off / 64 + i) ((data.drop (64 * i)).take 64)
  else if key = K.zoneIref then bytesUpTo 63 data
  else if key = K.zonePhaseSel then bytesUpTo 15 data
  else if key = K.auxSinkMa then bytesUpTo 60 data
  else if key = K.fbImage0 then fbRecordOk 0 data
  else if key = K.fbImage1 then fbRecordOk 1 data
  else if key = K.fbImage2 then fbRecordOk 2 data
  else if key = K.fbImage3 then fbRecordOk 3 data
  else true

/-- Whether OFFSET and length fit a DOMAIN (R312). -/
def Obj.extentOk (o : Obj) (size off len : Nat) : Bool :=
  match o.range with
  | .whole lo hi => off == 0 && decide (lo ≤ len) && decide (len ≤ hi)
  | .offset _ elem => decide (0 < len) && off % elem == 0 && len % elem == 0 && decide (off + len ≤ size)
  | _ => true

/-- Check 6 of R311 for any object. -/
def State.rangeOk (s : State) (index sub off : Nat) (o : Obj) (data : List Byte) : Bool :=
  if o.ty = .dom ∨ o.ty = .str then
    o.extentOk (s.offsetSize index o) off data.length && elementsOk (objKey index sub) off data
  else if blockBase index = 0x2310 ∧ sub = K.surfLen then decide (leValue data ≤ s.surfNext (index - 0x2310) K.surfSize)
  else o.inRange sub (leValue data)

/-! ### Check 7: surfaces (R93, R94, R98 to R101) -/

/-- Whether a CLOSE of surface `n` is refused: TRANSFER mode, or not OPEN, once the items held for it are applied (R99, R100, log 42). -/
def State.closeRefused (s : State) (n : Nat) : Bool :=
  let u := s.surfAfter n
  u.surfPar n K.surfVerify == 1 || (u.surface n).phase != .opened

/-- REFUSED where a condition holds. -/
def refusedIf (b : Bool) : Option (Nat × Nat) := if b then some (0x0F, 0) else none

/-- Check 7 for a surface's objects. -/
def State.surfaceRefusal (s : State) (level : Level) (n sub off : Nat) (data : List Byte) : Option (Nat × Nat) :=
  if n = 0 ∧ level ≠ .service then some (3, 2)
  else if sub = K.surfCmd then refusedIf (leValue data == 1 && s.closeRefused n)
  else if sub = K.surfImage then refusedIf ((s.surfAfter n).rowsRefused n off data.length)
  else refusedIf (s.surfRefused n sub (leValue data))

/-! ### Check 7: coefficient sets (R79) -/

/-- The signed coefficient at byte `i` of a set. -/
def coefAt (d : List Byte) (i : Nat) : Int := fieldI16 d i

/-- Whether the `n` coefficients from byte `i` sum to 512. -/
def phaseSums (d : List Byte) (i n : Nat) : Bool := ((upTo n).map fun t => coefAt d (i + 2 * t)).foldl (· + ·) 0 == 512

/-- Whether a coefficient set is accepted. -/
def filterSetOk (d : List Byte) : Bool :=
  ((upTo 768).all fun k => decide (-512 ≤ coefAt d (2 * k)) && decide (coefAt d (2 * k) ≤ 511)) &&
    ((upTo 64).all fun ph => phaseSums d (16 * ph) 8) && (upTo 64).all fun ph => phaseSums d (1024 + 8 * ph) 4

/-! ### Check 7: windows and events (R122, R211, R320) -/

/-- A commit-carried value: the staged one, else the one in force (R114, R122). -/
def State.stagedValue (s : State) (key old : Nat) : Nat :=
  match s.glare.staged.find? fun e => e.key == key with
  | some e => e.value
  | none => old

/-- The rectangle that a window would take with one coordinate written (R122). -/
def State.windowAfter (s : State) (n sub v : Nat) : Nat × Nat × Nat × Nat :=
  let w := s.glare.wins.getD n ⟨0, 0, 0, 0, 0⟩
  let g := fun k old => if k = sub then v else s.stagedValue (objKey (0x2440 + n) k) old
  (g K.winX0 w.x0, g K.winY0 w.y0, g K.winX1 w.x1, g K.winY1 w.y1)

/-- Check 7 for a window coordinate. -/
def State.windowRefused (s : State) (n sub v : Nat) : Bool :=
  let r := s.windowAfter n sub v
  decide (sub ≤ K.winY1) && !(decide (r.1 ≤ r.2.2.1) && decide (r.2.2.1 ≤ 2047) && decide (r.2.1 ≤ r.2.2.2) && decide (r.2.2.2 ≤ 511))

/-- Below SERVICE, a write that clears EV_ROUTE bit 2 or sets EV_MASK of an event of severity 2 or more (R211, R320). -/
def State.eventRefused (s : State) (level : Level) (n sub v : Nat) : Bool :=
  level != .service && decide (2 ≤ s.evSeverity n) &&
    ((sub == K.evMask && v == 1 && !s.evMask n) || (sub == K.evRoute && !bitOf v 2 && bitOf (s.evRoute n) 2))

/-! ### Check 7: single objects -/

/-- What Campion refuses while it is on (R330). -/
def State.campionRefuses (s : State) (index sub : Nat) : Bool :=
  s.comp.campionOn && (objKey index sub == K.commitStage || (decide (0x2200 ≤ index) && decide (index ≤ 0x2217)) || index == 0x2240 ||
    (decide (0x2400 ≤ index) && decide (index ≤ 0x244F)))

/-- UPDATE_CMD is refused in the present RALLY_STATE (R387). -/
def State.updateRefused (s : State) (v : Nat) : Bool :=
  let staged := s.rally.phase == .staged && (s.slotOfBank (!s.rally.bankB)).state == .staged
  match v with
  | 1 => !(staged && s.flt.health != 2)
  | 2 => !staged
  | _ => !(s.rally.phase == .idle || s.rally.phase == .staged)

/-- Whether a scalar value is REFUSED against another object or the module's state (R67, R117, R196, R200, R320). -/
def State.scalarRefused (s : State) (key v : Nat) : Bool :=
  if key = K.wakeEnable then !bitOf v 2
  else if key = K.rowSlot then decide (s.tim.maxCyc < marginOf v)
  else if key = K.reflexOff then decide (s.par K.reflexOn < v)
  else if key = K.reflexOn then decide (v < s.par K.reflexOff)
  else if key = K.reflexRoi then decide (bits v 16 8 < bits v 0 8) || decide (bits v 24 8 < bits v 8 8)
  else if key = K.lumLow then decide (v < s.par K.nolightRatio)
  else if key = K.nolightRatio then decide (s.par K.lumLow < v)
  else if key = K.tjDerate then decide (s.par K.tjDerateEnd ≤ v)
  else if key = K.tjDerateEnd then decide (v ≤ s.par K.tjDerate) || decide (s.par K.tjShutdown ≤ v)
  else if key = K.tjShutdown then decide (v ≤ s.par K.tjDerateEnd)
  else if key = K.zloopBand then decide (s.par K.zloopFeLimit ≤ v)
  else if key = K.zloopFeLimit then decide (v ≤ s.par K.zloopBand)
  else false

/-- Check 7 for objects outside the repeating blocks. -/
def State.singleRefusal (s : State) (level : Level) (index sub : Nat) (data : List Byte) : Option (Nat × Nat) :=
  let key := objKey index sub
  let v := leValue data
  if index = 0x2720 ∧ (s.sup.injecting ∨ s.sup.injArmed) ∧ ¬(key = K.injTarget ∧ v = 0) then some (0x0F, 0)
  else if index = 0x2B00 ∧ s.crcsBusy ∧ ¬(key = K.crcsCmd ∧ v = 2) then some (0x0F, 0)
  else if key = K.crcsCmd then refusedIf (v == 1 && s.crcsRefused level)
  else if key = K.stateRequest then s.requestError (requestedState v) level
  else if key = K.persistCmd then (if v = 2 ∧ level ≠ .service then some (3, 2) else none)
  else if key = K.capCmd then (if s.par K.injTarget = 1 ∧ 100 < s.par K.injAmpl then some (5, 0) else none)
  else if key = K.updateCmd then (if s.updateRefused v then some (6, s.pwr.dev.num) else none)
  else if key = K.filterSet0 ∨ key = K.filterSet1 then refusedIf (!filterSetOk data)
  else if key = K.commitStage then
    match parseCommit data with
    | .error off => some (0x0B, off)
    | .ok _ => none
  else refusedIf (s.scalarRefused key v)

/-- Check 7 of R311. -/
def State.refusal (s : State) (level : Level) (index sub off : Nat) (data : List Byte) : Option (Nat × Nat) :=
  if s.campionRefuses index sub then some (0x0F, 0)
  else match blockBase index with
    | 0x2210 => none
    | 0x2310 => s.surfaceRefusal level (index - 0x2310) sub off data
    | 0x2440 => refusedIf (s.windowRefused (index - 0x2440) sub (leValue data))
    | 0x4010 => refusedIf (s.eventRefused level (index - 0x4010) sub (leValue data))
    | _ => s.singleRefusal level index sub data

/-! ### The checks in order (R311) -/

/-- Checks 1 to 5 of R311, of which none needs the data but its length: the code and INFO of the first that fails, or the object. -/
def State.openError (s : State) (level : Level) (index sub len : Nat) (block : Bool) : Except (Nat × Nat) Obj :=
  match objFind index sub with
  | none => .error (1, 0)
  | some o =>
    if o.acc = .ro then .error (2, 0)
    else if level.num < o.lvl.num then .error (3, o.lvl.num)
    else match o.typeError (s.offsetSize index o) len block with
      | some n => .error (4, n)
      | none => if o.apply = .inReady ∧ s.pwr.dev ≠ .ready then .error (6, s.pwr.dev.num) else .ok o

/-- The code and INFO of the first check that a write fails, none where it is accepted (R311). -/
def State.writeError (s : State) (level : Level) (index sub off : Nat) (data : List Byte) (block : Bool) : Option (Nat × Nat) :=
  match s.openError level index sub data.length block with
  | .error e => some e
  | .ok o => if !s.rangeOk index sub off o data then some (5, 0) else s.refusal level index sub off data

end Sys2Proof.Machine
end

