-- ==== Sys2Proof/Machine/WriteOps.lean ====
section
/-! DEFINITION. What an accepted write to each object of the dictionary does (R310 to R315, and the rules that the tables of chapter 15
cite). -/

namespace Sys2Proof.Machine

open Sys2Proof

/-! ### Values, and what makes PERSIST dirty (R312, R314) -/

/-- An object whose value has changed makes PERSIST dirty where it is RWP. -/
def State.markDirty (s : State) (key : Nat) : State :=
  if isRwp key then s.onDict fun d => { d with dirty := setAdd d.dirty key, dirtySince := some (d.dirtySince.getD s.now) } else s

/-- A scalar value is written. -/
def State.writePar (s : State) (key v : Nat) : State := if v = s.par key then s else (s.putPar key v).markDirty key

/-- Bytes of a DOMAIN value are written from an offset; the others are kept. -/
def State.writeDom (s : State) (key off : Nat) (data : List Byte) : State :=
  let new := splice (s.dom key) off data
  if new = s.dom key then s else (s.putDom key new).markDirty key

/-- A whole DOMAIN value is written. -/
def State.writeWhole (s : State) (key : Nat) (data : List Byte) : State :=
  if data = s.dom key then s else (s.putDom key data).markDirty key

/-! ### Staged values (R66, R114) -/

/-- A list of staged values with one replaced. -/
def restage (l : List Staged) (key v stamp : Nat) : List Staged := (l.filter fun e => e.key != key) ++ [⟨key, v, stamp⟩]

/-- An AT_APPLY_ROW value is staged (R66). -/
def State.stageRow (s : State) (key v : Nat) : State := s.onTim fun t => { t with staged := restage t.staged key v 0 }

/-- A commit-carried value is staged (R114). -/
def State.stageCarried (s : State) (key v : Nat) : State :=
  let stamp := s.dict.stamp + 1
  (s.onDict fun d => { d with stamp := stamp }).onGlare fun g => { g with staged := restage g.staged key v stamp }

/-! ### CAN and Vexlink (R246, R288, R303) -/

/-- CAN_ADDR (R288, R302): the address it gives takes effect later; answers are no longer muted. -/
def State.writeCanAddr (s : State) (v : Nat) : State :=
  let addr := if v = 0xFF then s.vex.addr.getD (s.flash.canAddrLast.getD s.pwr.role) else v
  let s1 := (s.writePar K.canAddr v).onCan fun c => { c with newAddr := some addr, muted := false }
  if v = 0xFF ∧ s.vex.addr.isSome then s1.writeDue 15 else s1

/-- VX_RATE or VX_WIDTH (R246): a write restarts the link, the value in force included (R312). -/
def State.writeLink (s : State) (key v : Nat) : State := (s.writePar key v).changeLink

/-- CAN_CMD RECOVER starts the recovery sequence of a controller that is bus-off (R303). Over CAN no write arrives then. -/
def State.canRecover (s : State) : State := s.onCan fun c => { c with recovering := c.recovering || c.busOff }

/-! ### Persistence (R314) -/

/-- PERSIST_CMD STORE: a commit starts, or waits for one in progress and for the 2 s spacing. -/
def State.persistStore (s : State) : State :=
  let recent := match s.dict.lastCommit with
    | some t => decide (s.now < t + 2000000)
    | none => false
  if s.dict.committing || recent then s.onDict fun d => { d with storeDue := true } else s.beginCommit

/-- PERSIST_CMD RESTORE_DEFAULTS: every RWP default is written into PERSIST, and the writes accepted before are never committed. -/
def State.restoreDefaults (s : State) : State :=
  let s1 := s.onDict fun d => { d with dirty := [], dirtySince := none, storeDue := false, restoring := true }
  if s.dict.committing then s1 else s1.beginCommit

/-! ### Light sensing, supply, injection (R117, R171, R178 to R180) -/

/-- REFLEX_ENABLE (R117): 0 clears every reflex slot at once. -/
def State.writeReflexEnable (s : State) (v : Nat) : State :=
  let s1 := s.writePar K.reflexEnable v
  if v ≠ 0 then s1
  else
    let s2 := s1.onGlare fun g => { g with slots := List.replicate 16 ReflexSlot.reset, overflowRun := false, mapWaiting := false }
    if s2.reflexBoxes = s.reflexBoxes then s2 else s2.reflexChanged

/-- GAIN_SOURCE (R171): hand-overs refused before are asked for again. -/
def State.writeGainSource (s : State) (v : Nat) : State :=
  (s.writePar K.gainSource v).onZones fun _ z => { z with refused := false }

/-- INJ_TARGET (R179): OFF stops injection. -/
def State.writeInjTarget (s : State) (v : Nat) : State :=
  (if v = 0 then s.stopInjection 0 else s).writePar K.injTarget v

/-- CAP_CMD START (R178, R180): injection and capture begin at the next sample period, or the capture alone with INJ_TARGET OFF. -/
def State.startCapture (s : State) : State :=
  if s.par K.injTarget = 0 then
    s.onSup fun u => { u with capRunning := true, capState := 1, capTaken := 0, capDecim := 0, capSamples := [] }
  else s.onSup fun u => { u with injArmed := true }

/-! ### Faults (R207, R209, R211, R219) -/

/-- FAULT_ACK. -/
def State.ackFault (s : State) : State :=
  let s1 := (s.onFlt fun f => { f with faultAcked := true }).onPwr fun p => { p with faultAckSeen := true }
  let s2 := if s1.flt.fbCauses.contains .reaction then s1.clearFb .reaction else s1
  s2.judgeFaultN

/-- ZONE_FAULT_CLEAR of a zone (R207): its ZONE_BLANK reaction ends; a zone held open under R203 stays open, since that holds it still. -/
def State.clearZoneFault (s : State) (z : Nat) : State :=
  ((s.endCause z .fault).onFlt fun f => { f with reactions := setDel f.reactions z }).judgeHealth.judgeFaultN

/-- DEGRADED of a zone is cleared with SERVICE access (R175): by ZONE_FAULT_CLEAR, the one command that clears a zone's fault, written
at that level (DESIGN CHOICE, log 47). -/
def State.clearDegraded (s : State) (via : Transport) (z : Nat) : State :=
  if (s.access via).level == .service then (s.onZone z fun q => { q with degraded := false }).judgeHealth else s

/-! ### Events (R315, R337) -/

/-- EVENT_CLEAR (R337): one latch, or with 255 all of them. -/
def State.clearEvent (s : State) (v : Nat) : State :=
  s.onMgmt fun m => { m with latched := if v = 0xFF then [] else setDel m.latched v }

/-- EV_SEVERITY of event `n`, a stored value in a record of its own (R281, R315, log 8). -/
def State.writeSeverity (s : State) (n v : Nat) : State :=
  (s.onFlash fun f => { f with
    severities := if v = (evDefault n).1 then kvDel f.severities n else kvSet f.severities n v }).writeDue 17

/-! ### Calibration and fallback images (R41 to R45, R213, R278, R279, R315) -/

/-- The store header with a check value replaced and its seal formed anew: a write into the header's region, which ends scans of it (R279). -/
def State.refreshHeader (s : State) (off cv : Nat) : State :=
  let head := sealed (splice (calRead s.chk.cal 0x148000 4092) off (u32 cv))
  let s1 := s.onChk fun c => { c with cal := calWrite c.cal 0x148000 head }
  (s1.abortScan (s1.scansCal 0x148000 4096) 1).writeDue 4

/-- A record is to be written to both copies, and counts as PENDING until they have verified (R281, R315). -/
def State.writeStored (s : State) (code : Nat) : State :=
  (s.onFlash fun f => { f with storing := setAdd f.storing code }).writeDue code

/-- A service write into the calibration store: scans of it end. -/
def State.writeCal (s : State) (addr : Nat) (data : List Byte) : State :=
  let s1 := s.onChk fun c => { c with cal := calWrite c.cal addr data }
  s1.abortScan (s1.scansCal addr data.length) 1

/-- CAL_GP. -/
def State.writeGp (s : State) (off : Nat) (data : List Byte) : State :=
  let s1 := (s.writeCal off data).writeStored 3
  s1.refreshHeader 24 (gpCrc s1.chk.cal)

/-- CAL_DEFECT: MOD_HEALTH is judged again. -/
def State.writeDefects (s : State) (off : Nat) (data : List Byte) : State :=
  ((s.writeCal (0x100000 + off) data).sealDefects.writeStored 2).judgeHealth

/-- CAL_ZONES: every zone written is to be stored. -/
def State.writeZones (s : State) (off : Nat) (data : List Byte) : State :=
  let s1 := s.writeCal (0x140000 + off) data
  let s2 := (upTo (data.length / 64)).foldl (fun s i => s.writeStored (0x100 + off / 64 + i)) s1
  (s2.refreshHeader 32 (zonesCrc s2.chk.cal)).judgeCal.judgeHealth

/-- FB_IMAGE_i (R213, R315). -/
def State.writeImage (s : State) (i : Nat) (b : List Byte) : State :=
  let m : FbImage := ⟨field b 7 1, field b 8 4, b.drop 64⟩
  (s.onFlash fun f => { f with fbNew := kvSet f.fbNew i m }).writeStored (8 + i)

/-- K_INT or K_SVC (R281, R305). -/
def State.writeKey (s : State) (service : Bool) (data : List Byte) : State :=
  (s.onFlash fun f => if service then { f with kSvc := data } else { f with kInt := data }).writeDue 14

/-! ### Staged commit (R298) -/

/-- A valid payload is staged. -/
def State.stageCommit (s : State) (data : List Byte) : State :=
  match parseCommit data with
  | .error _ => s
  | .ok (ls, bs, ss) => s.onCan fun c => { c with stage := some data, stageCommit := some ⟨0, ls, bs, ss, false, .sync, 0⟩ }

/-! ### Updates (R387, R393) -/

/-- The slot that holds no running image is erased, and its record is written EMPTY under R281 (R384, R386, R387). -/
def State.eraseStaged (s : State) : State :=
  let s1 := s.onSlot (!s.rally.bankB) fun y => { Slot.reset with storeGen := y.storeGen, copies := ⟨.erased, .erased⟩ }
  (s1.writeDue (12 + b2n !s.rally.bankB)).onRally fun r => { r with loading := false, loaded := false, phase := if r.phase = .staged then r.restPhase else r.phase }

/-- UPDATE_CMD (R387, R392, R393): ACTIVATE, ACTIVATE_COLD, DISCARD, which erases the slot of an image that was staged. -/
def State.updateCmd (s : State) (v : Nat) : State :=
  match v with
  | 1 => if s.rally.loaded then s else s.onRally fun r => { r with loading := true }
  | 2 => s.onRally fun r => { r with coldPending := true }
  | _ =>
    let st := (s.slotOfBank (!s.rally.bankB)).state
    (if st = .staged ∨ st = .rejected then s.eraseStaged else s).onRally fun r => { r with
      coldPending := false, phase := .idle, outcome := 4, reason := 0, outcomeAt := s.now, outcomeCold := false }

/-! ### Every object -/

/-- An accepted scalar outside the repeating blocks, on a transport. -/
def State.putSingle (s : State) (via : Transport) (key v : Nat) : State :=
  if key = K.canAddr then s.writeCanAddr v
  else if key = K.canCmd then s.canRecover
  else if key = K.vxRate ∨ key = K.vxWidth then s.writeLink key v
  else if key = K.stateRequest then (s.writePar key v).carryOut (requestedState v)
  else if key = K.resetCmd then s.askReset
  else if key = K.persistCmd then (if v = 1 then s.persistStore else s.restoreDefaults)
  else if key = K.frameMin ∨ key = K.frameMax ∨ key = K.lineMatch then s.stageRow key v
  else if key = K.kdEnable then s.stageCarried key v
  else if key = K.reflexEnable then s.writeReflexEnable v
  else if key = K.senseInterval then s.stageCadence v
  else if key = K.ledBudget ∨ key = K.peakLimit ∨ key = K.fbBudget then (s.writePar key v).judgeBudgets
  else if key = K.tjDerateEnd ∨ key = K.tctrlShutdown then (s.writePar key v).refreshInvalid
  else if key = K.fbSelect then (s.writePar key v).judgeHealth
  else if key = K.gainSource then s.writeGainSource v
  else if key = K.injTarget then s.writeInjTarget v
  else if key = K.capCmd then s.startCapture
  else if key = K.faultAck then s.ackFault
  else if key = K.zoneFaultClear then (s.clearZoneFault v).clearDegraded via v
  else if key = K.auxEnable then (s.writePar key v).enableAux v
  else if key = K.crcsCmd then (if v = 1 then s.crcsStart else s.crcsAbort)
  else if key = K.eventClear then s.clearEvent v
  else if key = K.logReadIndex then s.onAccess via fun a => { a with logIndex := v }
  else if key = K.logClear then s.clearLog
  else if key = K.updateCmd then s.updateCmd v
  else if key = K.compatEnable then (s.writePar key v).setCampion (v != 0)
  else if key = K.ph16kMode then (s.writePar key v).campionStaged
  else s.writePar key v

/-- An accepted scalar. Surface commands and geometry go through the write queue instead (R99). -/
def State.putScalar (s : State) (via : Transport) (index sub v : Nat) : State :=
  match blockBase index with
  | 0x2440 => s.stageCarried (objKey index sub) v
  | 0x4010 => if sub = K.evSeverity then s.writeSeverity (index - 0x4010) v else s.writePar (objKey index sub) v
  | _ => s.putSingle via (objKey index sub) v

/-- Accepted bytes of a DOMAIN other than SURF_IMAGE. -/
def State.putBytes (s : State) (key off : Nat) (data : List Byte) : State :=
  if key = K.keyInt then s.writeKey false data
  else if key = K.keySvc then s.writeKey true data
  else if key = K.commitStage then s.stageCommit data
  else if key = K.calGp then s.writeGp off data
  else if key = K.calDefect then s.writeDefects off data
  else if key = K.calZones then s.writeZones off data
  else if key = K.zoneBlankMask then (s.writeDom key off data).applyBlankMask
  else if key = K.fbImage0 then s.writeImage 0 data
  else if key = K.fbImage1 then s.writeImage 1 data
  else if key = K.fbImage2 then s.writeImage 2 data
  else if key = K.fbImage3 then s.writeImage 3 data
  else if key = K.ph16kMap then (s.writeDom key off data).campionStaged
  else if key = K.crcsFold ∨ key = K.crcsData then s.writeWhole key data
  else s.writeDom key off data

/-- An accepted write of an object's bytes. -/
def State.putObject (s : State) (via : Transport) (index sub off : Nat) (o : Obj) (data : List Byte) : State :=
  if o.ty = .dom ∨ o.ty = .str then s.putBytes (objKey index sub) off data else s.putScalar via index sub (leValue data)

/-- The item that an accepted write to a surface puts through the write queue (R95, R99): a command, a geometry write, or bytes. -/
def heldOf (index sub off : Nat) (data : List Byte) : Option Held :=
  if blockBase index ≠ 0x2310 then none
  else
    let n := index - 0x2310
    let v := leValue data
    if sub = K.surfCmd then some (if v = 1 then .close n else .clear n)
    else if sub = K.surfImage then some (.bytes n off data false none (off, data.length))
    else if sub ≤ K.surfSeal then some (.object n sub v)
    else none

end Sys2Proof.Machine
end

