-- ==== Sys2Proof/Machine/GrenzOps.lean ====
section
/-! DEFINITION. Grenz requests on the three transports (R289 to R293, R301, R304, R388), block transfers (R294, R295), and DOMAIN
transfers over Vexlink (R262). -/

namespace Sys2Proof.Machine

open Sys2Proof

/-! ### Taking a request (R286, R291, R292, R301, R304, R388) -/

/-- Operations by their codes (Table 14-4). -/
def opRead : Nat := 0x01
/-- WRITE. -/
def opWrite : Nat := 0x02
/-- BLOCK_READ_INIT. -/
def opBlockRead : Nat := 0x10
/-- BLOCK_WRITE_INIT. -/
def opBlockWrite : Nat := 0x11
/-- BLOCK_SEG. -/
def opBlockSeg : Nat := 0x12
/-- BLOCK_CRC. -/
def opBlockCrc : Nat := 0x13
/-- BLOCK_ACK. -/
def opBlockAck : Nat := 0x14
/-- ABORT. -/
def opAbort : Nat := 0x1F
/-- UNLOCK_REQ. -/
def opUnlockReq : Nat := 0x20
/-- UNLOCK_RESP. -/
def opUnlockResp : Nat := 0x21
/-- LOCK. -/
def opLock : Nat := 0x22

/-- Whether a request reaches the module: MGMT is up, and on CAN its class is one of a host's or a service tool's and the controller is not
bus-off (R286, R303). -/
def State.reaches (s : State) (r : Req) : Bool :=
  s.up && (decide (r.via ≠ .can) || [2, 3, 4, 5, 10, 13].contains r.cls && !s.can.busOff)

/-- Whether another request of the channel is in progress: one waits for the write queue, or a transfer with another TOKEN runs (R291). -/
def State.inProgress (s : State) (r : Req) : Bool :=
  s.requestsWaiting.any (fun m => decide (reqChannel m.req = reqChannel r)) || match s.can.transfer with
    | some t => decide (reqChannel t.req = reqChannel r) && t.req.token != r.token
    | none => false

/-- The stored answer of a request repeated within 1 s (R292). -/
def State.storedAnswer (s : State) (m : GrenzMsg) : Option GrenzAnswer :=
  match s.can.answered.find? fun a => decide (reqChannel a.1.req = reqChannel m.req) with
  | some (p, a, t) =>
    if p.op = m.op ∧ p.req.token = m.req.token ∧ p.index = m.index ∧ p.sub = m.sub ∧ p.data = m.data ∧ s.now ≤ t + 1000000 then some a
    else none
  | none => none

/-- Whether a class allows an operation (Table 14-4): classes 2 to 5 allow no block transfer. -/
def opAllowed (r : Req) (op : Nat) : Bool :=
  decide (r.via ≠ .can) || r.cls == 10 || r.cls == 13 || [opRead, opWrite, opUnlockReq, opUnlockResp, opLock].contains op

/-- Whether a class 13 request lacks SERVICE (R304). -/
def State.classLevelLow (s : State) (m : GrenzMsg) : Bool :=
  decide (m.req.via = .can) && m.req.cls == 13 && s.mgmt.can.level != .service && m.op != opUnlockReq && m.op != opUnlockResp

/-- An ERROR is sent without being kept for a repeat. -/
def State.sendError (s : State) (r : Req) (index sub code info : Nat) : State :=
  s.sendGrenz r 0xFF index sub 0 (u8 code ++ [0, 0, 0] ++ u32 info)

/-- A request is taken: BUSY during a hand-over (R388), a repeat answered from the store (R292), BUSY while another is in progress (R291),
REFUSED in a class that does not allow it (R301), LEVEL in class 13 below SERVICE (R304), else carried out. -/
def State.serve (s : State) (m : GrenzMsg) (body : State → State) : State :=
  if !s.reaches m.req then s
  else if s.rally.phase == .handover then s.sendError m.req m.index m.sub 7 0
  else match s.storedAnswer m with
    | some a => s.sendGrenz m.req a.op m.index m.sub a.flags a.data
    | none =>
      if s.inProgress m.req then s.busy m
      else if !opAllowed m.req m.op then s.refuse m 0x0F 0
      else if s.classLevelLow m then s.refuse m 3 2
      else body s

/-- On SVC what a transfer sends answers the latest frame of it (R379). -/
def State.answerFrame (s : State) (r : Req) : State :=
  if r.via = .svc then
    s.onCan fun c => { c with
      transfer := c.transfer.map fun t => if reqChannel t.req = reqChannel r ∧ t.req.token = r.token then { t with req := r } else t }
  else s

/-- A frame of a transfer, or an ABORT, is taken, in class 13 with SERVICE only (R304); it has no stored answer. -/
def State.serveFrame (s : State) (r : Req) (op : Nat) (body : State → State) : State :=
  if !s.reaches r then s
  else if s.rally.phase == .handover then s.sendError r 0 0 7 0
  else if !opAllowed r op then s.sendError r 0 0 0x0F 0
  else if s.classLevelLow ⟨r, op, 0, 0, 0, []⟩ then s.sendError r 0 0 3 2
  else body (s.answerFrame r)

/-! ### READ (R293, R317, R347) -/

/-- The size of a DOMAIN or STR object in bytes. -/
def State.domainSize (s : State) (v : Transport) (index sub : Nat) : Nat :=
  let key := objKey index sub
  if blockBase index = 0x2310 ∧ sub = K.surfImage then s.surfPar (index - 0x2310) K.surfSize
  else if key = K.calGp then 0x100000
  else if key = K.calDefect then 0x40000
  else if key = K.calZones then 0x8000
  else if key = K.fbImage0 ∨ key = K.fbImage1 ∨ key = K.fbImage2 ∨ key = K.fbImage3 then 65600
  else (s.domainBytes v index sub).length

/-- Whether an object is a byte string. -/
def Obj.isDomain (o : Obj) : Bool := o.ty == .dom || o.ty == .str

/-- A READ: the whole value, or TOO_LONG above 56 bytes; LOG_RECORDS only where no record remains. -/
def State.readRequest (s : State) (m : GrenzMsg) : State :=
  match objFind m.index m.sub with
  | none => s.refuse m 1 0
  | some o =>
    if o.acc = .wo then s.refuse m 2 0
    else
      let s1 := s.wakeFor m.index m.sub
      let v := m.req.via
      if !o.isDomain then s1.reply m (s1.readObject v m.index m.sub o)
      else
        let size := s1.domainSize v m.index m.sub
        if 56 < size ∨ (objKey m.index m.sub = K.logRecordsObj ∧ 0 < size) then s1.refuse m 0x0C size
        else s1.reply m (s1.domainBytes v m.index m.sub)

/-! ### WRITE (R99, R290, R298, R311, R370) -/

/-- What a refused write brings with it: an invalid COMMIT_STAGE raises EV020 and leaves no commit staged (R298), and a refused START of
the CRC service shows in CRCS_STATUS (R283). -/
def State.writeRefused (s : State) (v : Transport) (key : Nat) (data : List Byte) (code info : Nat) : State :=
  if code = 0x0B then (s.raise { ev := 20, data := u32 0 ++ u32 info ++ u8 (transportCode v) }).clearStage
  else if code = 0x0F ∧ key = K.crcsCmd ∧ leValue data = 1 then s.crcsRefuse
  else s

/-- An item of an accepted write to a surface: applied or held and answered, or waiting for room in the write queue (R99). -/
def State.enterRequest (s : State) (m : GrenzMsg) (h : Held) : State :=
  match s.enter (s.waitsFor h.surface) h with
  | some s1 => s1.reply m []
  | none => s.waitFor ⟨h, 0, .request m⟩

/-- An accepted WRITE is carried out and answered; RESET_CMD is answered first (R370). -/
def State.acceptWrite (s0 : State) (m : GrenzMsg) (o : Obj) : State :=
  let s := s0.wakeFor m.index m.sub
  match heldOf m.index m.sub 0 m.data with
  | some h => s.enterRequest m h
  | none =>
    if objKey m.index m.sub = K.resetCmd then (s.reply m []).putObject m.req.via m.index m.sub 0 o m.data
    else (s.putObject m.req.via m.index m.sub 0 o m.data).reply m []

/-- A WRITE (R311). -/
def State.writeRequest (s : State) (m : GrenzMsg) : State :=
  match s.writeError (s.access m.req.via).level m.index m.sub 0 m.data false, objFind m.index m.sub with
  | some e, _ => (s.writeRefused m.req.via (objKey m.index m.sub) m.data e.1 e.2).refuse m e.1 e.2
  | none, some o => s.acceptWrite m o
  | none, none => s

/-- A WRITE as it comes over a transport. -/
def State.write (s : State) (r : Req) (index sub : Nat) (data : List Byte) : State :=
  let m : GrenzMsg := ⟨r, opWrite, index, sub, 0, data⟩
  s.serve m fun s => s.writeRequest m

/-- A WRITE of a scalar with `n` bytes. -/
def State.writeNum (s : State) (r : Req) (key n v : Nat) : State := s.write r (key / 256) (key % 256) (leBytes n v)

/-! ### Reads by block (R294, R295, R347) -/

/-- CRC16_1021 of a block with the fold of R294. -/
def blockCheck (index sub block : Nat) (data : List Byte) : Nat := crc crc16Params (u16 index ++ u8 sub ++ u8 block) data

/-- The data of the block that a read is sending. -/
def Transfer.chunk (t : Transfer) : List Byte := (t.data.drop t.done).take (56 * t.blksize)

/-- A block of a read is sent: its segments, then BLOCK_CRC (R294). -/
def State.sendBlock (s : State) (t : Transfer) : State :=
  let bs := t.chunk
  let n := (bs.length + 55) / 56
  let ends := decide (t.total ≤ t.done + bs.length)
  let s1 := (upTo n).foldl (fun s i =>
    s.sendGrenz t.req opBlockSeg t.index t.sub ((if ends && i + 1 == n then 0x80 else 0) + i + 1) ((bs.drop (56 * i)).take 56)) s
  s1.sendGrenz t.req opBlockCrc t.index t.sub 0 (u8 t.block ++ [0] ++ u16 (blockCheck t.index t.sub t.block bs))

/-- A transfer takes its place. -/
def State.setTransfer (s : State) (t : Transfer) : State := s.onCan fun c => { c with transfer := some t }

/-- A DOMAIN's segments over Vexlink, of up to 4,088 bytes each, with TAG the DOMAIN offset and LAST on the final one (R262). -/
def State.sendSegments (s : State) (r : Req) (index sub offset : Nat) (data : List Byte) : State :=
  let n := (data.length + 4087) / 4088
  (upTo n).foldl (fun s i =>
    s.sendOwn (paramResp opBlockSeg r.token index sub 0 0 (offset + 4088 * i) (if i + 1 = n then 4 else 0) ((data.drop (4088 * i)).take 4088))) s

/-- An accepted BLOCK_READ_INIT over a snapshot of `total` bytes: TOTAL is answered, and the data follows. -/
def State.openRead (s : State) (m : GrenzMsg) (offset total blksize : Nat) (data : List Byte) : State :=
  let s1 := s.reply m (u32 total)
  if total = 0 then s1
  else
    let log := objKey m.index m.sub == K.logRecordsObj
    let s2 := if log then s1.beginLogRead m.req ((offset + total) / 64) else s1
    if m.req.via = .vexlink then s2.sendSegments m.req m.index m.sub offset data
    else
      let t : Transfer := ⟨m.req, m.index, m.sub, false, offset, total, data, 0, blksize, 0, 1, [], false, false, none⟩
      (s2.setTransfer t).sendBlock t

/-- BLOCK_READ_INIT (R294). -/
def State.blockReadRequest (s : State) (m : GrenzMsg) (offset length blksize : Nat) : State :=
  if s.can.transfer.isSome then s.busy m
  else match objFind m.index m.sub with
    | none => s.refuse m 1 0
    | some o =>
      if o.acc = .wo then s.refuse m 2 0
      else if !o.isDomain then s.refuse m 4 o.ty.size
      else
        let s1 := s.wakeFor m.index m.sub
        let size := s1.domainSize m.req.via m.index m.sub
        let total := if length = 0 then size - offset else length
        if blksize = 0 ∨ 32 < blksize ∨ size < offset ∨ size < offset + total then s1.refuse m 5 0
        else s1.openRead m offset total blksize (((s1.domainBytes m.req.via m.index m.sub).drop offset).take total)

/-- Whether a frame belongs to a transfer: same channel and TOKEN. -/
def Transfer.owns (t : Transfer) (r : Req) : Bool := decide (reqChannel t.req = reqChannel r) && t.req.token == r.token

/-- A TRANSIENT block failure: counted in CAN_STATUS and logged, with the CRCs of its two looks where the module formed them; no row of
Table 10-1 is its check (R197, R295, R341). -/
def State.blockTransient (s : State) (looks : List Byte) : State :=
  (s.onCan fun c => { c with blockTransients := inc32 c.blockTransients 1 }).transientRecord 0xFFFF looks

/-- The CRCs of the two looks at a block toward the module (R341). -/
def Transfer.lookValues (t : Transfer) : List Byte :=
  match t.firstCrc with
  | some v => u32 v ++ u32 (blockCheck t.index t.sub t.block t.blockData)
  | none => []

/-- The host has acknowledged the block just sent of a read: the next block follows, or the read is complete. -/
def State.blockAcked (s : State) (t : Transfer) (blksize : Nat) : State :=
  let s1 := if t.failedOnce then s.blockTransient [] else s
  let done := t.done + t.chunk.length
  if t.total ≤ done then
    (if objKey t.index t.sub = K.logRecordsObj then s1.endLogRead t.req else s1).endTransfer
  else if blksize = 0 ∨ 32 < blksize then s1.abortTransfer 5
  else
    let t1 := { t with done := done, block := t.block + 1, blksize := blksize, failedOnce := false }
    (s1.setTransfer t1).sendBlock t1

/-- A BLOCK_ACK from the host (R295): a failed block is sent again once. -/
def State.hostAck (s : State) (r : Req) (block result blksize : Nat) : State :=
  match s.can.transfer with
  | none => s
  | some t =>
    if !t.owns r || t.isWrite || t.block % 256 != block then s
    else if result = 0 then s.blockAcked t blksize
    else if t.failedOnce then s.abortTransfer (if result = 1 then 9 else 8)
    else
      let t1 := { t with failedOnce := true }
      (s.setTransfer t1).sendBlock t1

/-! ### Writes by block (R294, R295) -/

/-- The refusals of check 7 that a BLOCK_WRITE_INIT meets before any data: surface 0 below SERVICE, partial rows in TRANSFER mode, what
Campion refuses. -/
def State.initRefusal (s : State) (level : Level) (index sub offset total : Nat) : Option (Nat × Nat) :=
  if s.campionRefuses index sub then some (0x0F, 0)
  else if blockBase index = 0x2310 then
    if index = 0x2310 ∧ level ≠ .service then some (3, 2) else refusedIf ((s.surfAfter (index - 0x2310)).rowsRefused (index - 0x2310) offset total)
  else none

/-- The error that answers a BLOCK_WRITE_INIT, none where it is opened. A transfer of no bytes is out of range. -/
def State.initError (s : State) (level : Level) (index sub offset total : Nat) : Option (Nat × Nat) :=
  match s.openError level index sub total true with
  | .error e => some e
  | .ok o =>
    if total = 0 ∨ ¬o.extentOk (s.offsetSize index o) offset total then some (5, 0) else s.initRefusal level index sub offset total

/-- BLOCK_WRITE_INIT (R294): the module chooses blocks of 32 segments. -/
def State.blockWriteRequest (s : State) (m : GrenzMsg) (offset total : Nat) : State :=
  if s.can.transfer.isSome then s.busy m
  else match s.initError (s.access m.req.via).level m.index m.sub offset total with
    | some e => s.refuse m e.1 e.2
    | none =>
      (s.reply m (u8 32 ++ [0, 0, 0])).setTransfer
        ⟨m.req, m.index, m.sub, true, offset, total, [], 0, 32, 0, 1, [], false, false, none⟩

/-- A segment of a write is out of place (R295): the rest of its block is discarded. -/
def Transfer.lose (t : Transfer) : Transfer := { t with outOfOrder := true, blockData := [] }

/-- A write's transfer with a segment taken in, or out of place. -/
def Transfer.take (t : Transfer) (seq : Nat) (last : Bool) (data : List Byte) : Transfer :=
  let left := t.total - t.done - t.blockData.length
  if t.outOfOrder then t
  else if seq ≠ t.nextSeq ∨ t.blksize < seq ∨ data.length ≠ min 56 left ∨ last ≠ (left == data.length) then t.lose
  else { t with blockData := t.blockData ++ data, nextSeq := seq + 1 }

/-- A write by block ends refused: an ERROR frame stands in place of the BLOCK_ACK (R295). -/
def State.refuseTransfer (s : State) (t : Transfer) (code info : Nat) : State :=
  ((s.writeRefused t.req.via (objKey t.index t.sub) t.data code info).endTransfer).sendError t.req t.index t.sub code info

/-- A block of SURF_IMAGE that has passed is one write (R98, R295): refused, entered, or waiting for room in the write queue (R99). A
Vexlink segment waits in the receive buffer, and the segments behind it are taken on (R99, R262). -/
def State.surfBlock (s : State) (t : Transfer) : State :=
  let n := t.index - 0x2310
  let off := t.offset + t.done
  if n = 0 ∧ (s.access t.req.via).level ≠ .service then s.refuseTransfer t 3 2
  else if s.surfNext n K.surfSize < off + t.blockData.length then s.refuseTransfer t 5 0
  else if (s.surfAfter n).rowsRefused n t.offset t.total then s.refuseTransfer t 0x0F 0
  else
    let s1 := s.wakeFor t.index t.sub
    let h := Held.bytes n off t.blockData false none (t.offset, t.total)
    match s1.enter (s1.waitsFor n) h with
    | some s2 => s2.ackBlock t
    | none =>
      if t.req.via = .vexlink then (s1.waitFor ⟨h, 0, .packet t.blockAck⟩).nextBlock t
      else (s1.setTransfer t).waitFor ⟨h, 0, .block⟩

/-- The data held by a write by block is applied whole at its final block, after the checks of R311 (R295). -/
def State.applyTransfer (s : State) (t : Transfer) (data : List Byte) : State :=
  match s.writeError (s.access t.req.via).level t.index t.sub t.offset data true, objFind t.index t.sub with
  | some e, _ => s.refuseTransfer t e.1 e.2
  | none, some o => ((s.wakeFor t.index t.sub).putObject t.req.via t.index t.sub t.offset o data).ackBlock t
  | none, none => s

/-- A block of a write has passed (R295). -/
def State.blockPassed (s : State) (t : Transfer) : State :=
  if blockBase t.index = 0x2310 then s.surfBlock t
  else
    let data := t.data ++ t.blockData
    if t.total ≤ data.length then s.applyTransfer t data else s.ackBlock { t with data := data }

/-- RESULT of a block of a write: OK (0), CRC (1), SEQ (2) (R295). -/
def Transfer.result (t : Transfer) (block crc : Nat) : Nat :=
  if t.outOfOrder ∨ block ≠ t.block % 256 ∨ t.blockData.length ≠ min (56 * t.blksize) (t.total - t.done) then 2
  else if blockCheck t.index t.sub t.block t.blockData = crc then 0 else 1

/-- The check value of a block that has failed its CRC (R295, R341). -/
def Transfer.failValue (t : Transfer) (result : Nat) : Option Nat :=
  if result = 1 then some (blockCheck t.index t.sub t.block t.blockData) else none

/-- A block has failed: its second look is asked for, or the transfer ends LASTING (R295). -/
def State.blockFailed (s : State) (t : Transfer) (result : Nat) : State :=
  if t.failedOnce then s.abortTransfer (if result = 1 then 9 else 8)
  else
    (s.setTransfer { t with blockData := [], nextSeq := 1, outOfOrder := false, failedOnce := true, firstCrc := t.failValue result }).sendGrenz t.req opBlockAck t.index t.sub 0
      (u8 t.block ++ u8 result ++ u8 t.blksize ++ u8 0 ++ u32 0)

/-- A BLOCK_CRC from the host (R295). -/
def State.hostCrc (s : State) (r : Req) (block crc : Nat) : State :=
  match s.can.transfer with
  | none => s
  | some t =>
    if !t.owns r || !t.isWrite || s.blockWaits then s
    else
      let res := t.result block crc
      if res ≠ 0 then s.blockFailed t res
      else (if t.failedOnce then s.blockTransient t.lookValues else s).blockPassed t

/-- A BLOCK_SEG from the host over CAN or SVC (R294). -/
def State.hostSeg (s : State) (r : Req) (seq : Nat) (last : Bool) (data : List Byte) : State :=
  match s.can.transfer with
  | none => s
  | some t => if !t.owns r || !t.isWrite || s.blockWaits then s else s.setTransfer (t.take seq last data)

/-- A segment over Vexlink (R262): each stands as a block of its own. One out of place ends the transfer with ABORT code SEQ. -/
def State.vexSeg (s : State) (r : Req) (offset : Nat) (last : Bool) (data : List Byte) : State :=
  match s.can.transfer with
  | none => s
  | some t =>
    if !t.owns r || !t.isWrite then s
    else
      let left := t.total - t.done
      if offset ≠ t.offset + t.done ∨ data.length = 0 ∨ 4088 < data.length ∨ left < data.length ∨
          last ≠ (left == data.length) then s.abortTransfer 8
      else s.blockPassed { t with blockData := data }

/-- An ABORT from the host (R295). -/
def State.hostAbort (s : State) (r : Req) : State :=
  match s.can.transfer with
  | some t => if t.owns r then s.endTransfer else s
  | none => s

/-- A gap of more than 50 ms has come in a transfer (R295). -/
def State.transferTimeout (s : State) : State := s.abortTransfer 0x0A

/-- Whether an item waits with a Grenz write of a request's channel. -/
def Waiting.asks (w : Waiting) (r : Req) : Bool :=
  match w.who with
  | .request m => decide (reqChannel m.req = reqChannel r)
  | _ => false

/-- A Grenz write that has waited too long is answered BUSY and not applied; its packet's units are released (R99, R267). -/
def State.tooLate (s : State) (w : Waiting) : State :=
  match w.who with
  | .request m => (s.busy m).release w.units
  | _ => s

/-- 45 ms have passed for a request of a channel (R99, R291): a write that waits is answered BUSY and not applied, a block that waits ends
its transfer with ABORT code BUSY. A segment of Vexlink waits on: a packet is never refused for this cause (R99, log 42). -/
def State.timeLimit (s : State) (r : Req) : State :=
  let late := s.surf.waiting.filter (·.asks r)
  let s1 := s.onSurf fun m => { m with waiting := m.waiting.filter fun w => !w.asks r }
  let s2 := if late.isEmpty then s1 else (late.foldl State.tooLate s1).admitAll
  match s2.can.transfer with
  | some t => if decide (reqChannel t.req = reqChannel r) && s2.blockWaits then s2.abortTransfer 7 else s2
  | none => s2

/-! ### Whole transfers as one command -/

/-- A READ as it comes over a transport. -/
def State.read (s : State) (r : Req) (index sub : Nat) : State :=
  let m : GrenzMsg := ⟨r, opRead, index, sub, 0, []⟩
  s.serve m fun s => s.readRequest m

/-- A BLOCK_READ_INIT as it comes over a transport. -/
def State.blockRead (s : State) (r : Req) (index sub offset length blksize : Nat) : State :=
  let m : GrenzMsg := ⟨r, opBlockRead, index, sub, 0, u32 offset ++ u32 length ++ u8 blksize ++ [0, 0, 0]⟩
  s.serve m fun s => s.blockReadRequest m offset length blksize

/-- A BLOCK_WRITE_INIT as it comes over a transport. -/
def State.blockWrite (s : State) (r : Req) (index sub offset total : Nat) : State :=
  let m : GrenzMsg := ⟨r, opBlockWrite, index, sub, 0, u32 offset ++ u32 total⟩
  s.serve m fun s => s.blockWriteRequest m offset total

/-- A write of part of a DOMAIN, taken as its whole block transfer at once (R294, R295, R312; log 36): refused as its BLOCK_WRITE_INIT
would be, or applied and answered as its last block is. -/
def State.writeAt (s : State) (r : Req) (key offset : Nat) (data : List Byte) : State :=
  let index := key / 256
  let sub := key % 256
  let m : GrenzMsg := ⟨r, opBlockWrite, index, sub, 0, u32 offset ++ u32 data.length⟩
  let t : Transfer :=
    ⟨r, index, sub, true, offset, data.length, [], 0, 32, (data.length - 1) / 1792, 1, data, false, false, none⟩
  s.serve m fun s =>
    if s.can.transfer.isSome then s.busy m
    else match s.initError (s.access r.via).level index sub offset data.length with
      | some e => s.refuse m e.1 e.2
      | none => s.applyTransfer t data

/-! ### A Grenz frame as bytes (R262, R289, R380) -/

/-- A Grenz frame carried by Vexlink or SVC: a request carried out by its OP, with TAG and LAST of its packet on Vexlink. Any other OP, or
data that does not fit its OP, is REFUSED. On SVC the request bears the SEQ of its frame (R379). -/
def State.grenzFrameIn (s : State) (via : Transport) (b : List Byte) (tag : Nat) (pktLast : Bool) : State :=
  let op := field b 0 1
  let r : Req := ⟨via, if via = .svc then s.rally.svcSeq else 0, field b 1 1⟩
  let index := field b 2 2
  let sub := field b 4 1
  let flags := field b 5 1
  let len := field b 6 1
  let rest := b.drop 8
  let d := rest.take len
  let m : GrenzMsg := ⟨r, op, index, sub, 0, d⟩
  if b.length < 8 then s
  else if op = opBlockSeg ∧ via = .vexlink then
    s.serveFrame r op fun s => s.vexSeg r tag pktLast (rest.take (rest.length - field b 7 1))
  else if 56 < len ∨ rest.length < len ∨ (flags ≠ 0 ∧ op ≠ opBlockSeg) then s.serve m fun s => s.refuse m 0x0F 0
  else if op = opRead then s.serve m fun s => s.readRequest m
  else if op = opWrite then s.serve m fun s => s.writeRequest m
  else if op = opBlockRead ∧ len = 12 then s.serve m fun s => s.blockReadRequest m (field d 0 4) (field d 4 4) (if via = .vexlink then 32 else field d 8 1)
  else if op = opBlockWrite ∧ len = 8 then s.serve m fun s => s.blockWriteRequest m (field d 0 4) (field d 4 4)
  else if op = opBlockSeg then s.serveFrame r op fun s => s.hostSeg r (flags % 64) (bitOf flags 7) d
  else if op = opBlockCrc ∧ len = 4 then s.serveFrame r op fun s => s.hostCrc r (field d 0 1) (field d 2 2)
  else if op = opBlockAck ∧ len = 8 then s.serveFrame r op fun s => s.hostAck r (field d 0 1) (field d 1 1) (field d 2 1)
  else if op = opAbort then s.serveFrame r op fun s => s.hostAbort r
  else if op = opUnlockReq ∧ len = 4 then s.serve m fun s => s.unlockRequest m (field d 0 1)
  else if op = opUnlockResp ∧ len = 20 then s.serve m fun s => s.unlockAnswer m (field d 0 1) (d.drop 4)
  else if op = opLock then s.serve m fun s => s.lockRequest m
  else s.serve m fun s => s.refuse m 0x0F 0

/-- The units of a packet are released once it has been applied or answered; an item of it that waits for the write queue keeps them
(R99, R267). `waited` items waited before it came. -/
def State.settle (s : State) (waited units : Nat) : State :=
  if waited < s.surf.waiting.length then
    s.onSurf fun m => { m with waiting := m.waiting.modify (m.waiting.length - 1) fun w => { w with units := units } }
  else s.release units

/-- A PARAM_REQ whose check has passed (R262, R264, R267): acknowledged where that is asked for, and its request carried out. -/
def State.paramPacket (s : State) (h : VxHeader) (units : Nat) (p : List Byte) : State :=
  ((s.ack h.needAck h.bro h.seq h.type 0 0).grenzFrameIn .vexlink p h.tag h.last).settle s.surf.waiting.length units

end Sys2Proof.Machine
end

