-- ==== Sys2Proof/Machine/CanOps.lean ====
section
/-! DEFINITION. The CAN port outside requests: the module heartbeat (R296), EVENT frames (R297, R339), bus-off (R303), strangers and
malformed frames (R301), address clashes (R302), and a new address (R288). -/

namespace Sys2Proof.Machine

open Sys2Proof

/-! ### Heartbeat (R296) -/

/-- FLAGS of the heartbeat (Table 14-6). -/
def State.beatFlags (s : State) : Nat :=
  64 * b2n s.can.muted + 32 * b2n s.can.canOnly + 16 * b2n s.flt.faultN + 8 * b2n s.therm.derating + 4 * b2n s.flt.hostPresent +
    2 * b2n s.vex.lost + b2n (s.rally.phase == .handover)

/-- DEV_STATE and MOD_HEALTH as the heartbeat shows them: during a hand-over the values before the quiesce. -/
def State.beatState (s : State) : Nat × Nat := s.rally.hbHeld.getD (s.pwr.dev.num, s.flt.health)

/-- The 16 data bytes of the heartbeat (Table 14-6), with HB_COUNT. -/
def State.beatData (s : State) (count : Nat) : List Byte :=
  u8 s.beatState.1 ++ u8 s.beatState.2 ++ u8 s.beatFlags ++ u8 (s.vex.addr.getD 0xFF) ++ u8 s.pwr.role ++ u8 s.vex.epoch ++
    u16 count ++ u32 (s.tim.displayedTag) ++ u32 (s.tim.frameCount)

/-- HB_PERIOD_MS has expired: HB_COUNT increases, and the heartbeat is sent where CAN may be used. -/
def State.beat (s : State) : State :=
  if !s.up then s
  else
    let count := (s.can.hbCount + 1) % 65536
    (s.onCan fun c => { c with hbCount := count }).sendCan (grenzFrame 12 s.can.addr 0x50 0 0 0 0 (s.beatData count))

/-! ### EVENT frames (R297, R339) -/

/-- The 24 data bytes of an EVENT frame, from a record and the entries dropped before it; a count beyond 255 shows 255. -/
def eventFrameData (rcd : List Byte) (dropped : Nat) : List Byte :=
  u8 (field rcd 13 1) ++ u8 (field rcd 14 1) ++ u8 (field rcd 15 1 % 4) ++ u8 (min dropped 255) ++ (rcd.drop 4).take 8 ++ (rcd.drop 24).take 12

/-- The next queued EVENT frame is sent. -/
def State.eventFrame (s : State) : State :=
  match s.can.evQueue with
  | [] => s
  | rcd :: rest =>
    if s.can.busOff ∨ !s.up then s
    else
      let f := grenzFrame 0 s.can.addr 0x40 (field rcd 0 1) (0x4010 + field rcd 13 1) 0x06 0 (eventFrameData rcd s.can.evSince)
      (s.onCan fun c => { c with evQueue := rest, evSince := 0 }).sendCan f

/-! ### Bus-off (R303, R306) -/

/-- Automatic recoveries in the 60 s before now. -/
def State.recentRecoveries (s : State) : List Nat := s.can.recoveredAt.filter fun t => decide (s.now < t + 60000000)

/-- The controller goes bus-off: EV099, CAN back to USER, and an automatic recovery begins where fewer than 3 came in the preceding 60 s.
TEC has passed 255 then (ISO 11898-1); what it holds until the recovery is 256, whatever count brought it there (DESIGN CHOICE, log 48). -/
def State.enterBusOff (s : State) : State :=
  if !s.up ∨ s.can.busOff then s
  else
    let recent := s.recentRecoveries
    let auto := decide (recent.length < 3)
    let n := inc32 s.can.busOffs 1
    let s1 := s.onCan fun c => { c with
      busOff := true, tecErr := 256, busOffs := n, recovering := auto
      recoveries := if auto then inc32 c.recoveries 1 else c.recoveries
      recoveredAt := if auto then recent ++ [s.now] else recent }
    (s1.endSession .can).raise { ev := 99, data := u32 n }

/-- The recovery sequence has completed: the controller is error-active again. -/
def State.leaveBusOff (s : State) : State :=
  if s.can.recovering then s.onCan fun c => { c with busOff := false, recovering := false, tecErr := 0, recErr := 0 }
  else s

/-- A transmit error adds 8 to TEC and beyond 255 brings bus-off (R303). -/
def State.txFailed (s : State) : State :=
  if 255 < s.can.tecErr + 8 then s.enterBusOff else s.onCan fun c => { c with tecErr := c.tecErr + 8 }

/-- The error counters of ISO 11898-1 take one happening on the bus (R303, log 48): a receive error adds 1 to REC and a dominant bit after
the error flag 8, a transmit error adds 8 to TEC and beyond 255 brings bus-off, a frame sent takes 1 from TEC, and a frame received takes
1 from REC, which from above 127 falls to a value of 119 to 127 that the standard leaves free. An acknowledgement error of an error-passive
transmitter without a dominant bit in its error flag, and a stuff error in arbitration of a recessive stuff bit read dominant, count
nothing. REC is held at 65,535. -/
def State.busEvent (s : State) (e : CanBusEvent) : State :=
  if s.can.busOff then s
  else match e with
  | .rxError => s.onCan fun c => { c with recErr := min 65535 (c.recErr + 1) }
  | .rxDominant => s.onCan fun c => { c with recErr := min 65535 (c.recErr + 8) }
  | .passiveAckError => if s.canPassive then s else s.txFailed
  | .arbStuffError => s
  | .txError => s.txFailed
  | .txOk => s.onCan fun c => { c with tecErr := c.tecErr - 1 }
  | .rxOk =>
    if s.can.recErr ≤ 127 then s.onCan fun c => { c with recErr := c.recErr - 1 }
    else
      let (d, s1) := s.drawUnstated 1
      s1.onCan fun c => { c with recErr := 119 + leValue d % 9 }

/-! ### Strangers, malformed frames, clashes (R301, R302) -/

/-- The operations that a host or a service tool sends in request classes (Table 14-4). -/
def hostOps : List Nat := [opRead, opWrite, opBlockRead, opBlockWrite, opBlockSeg, opBlockCrc, opBlockAck, opAbort, opUnlockReq, opUnlockResp,
  opLock, 0x30, 0x51]

/-- The operations that a module sends (Table 14-4): its own frames, answers with bit 7 set, ERROR, and those of either side of a
transfer. -/
def moduleOps : List Nat := [0x40, 0x50, 0x60, 0xFF, 0x81, 0x82, 0x90, 0x91, 0xA0, 0xA1, 0xA2, opBlockSeg, opBlockCrc, opBlockAck, opAbort]

/-- Whether an OP is known and may be sent by the sender of a class (Tables 14-2 and 14-4). -/
def opFits (cls op : Nat) : Bool :=
  if cls = 1 then op == 0x30 else if cls = 14 then op == 0x51
  else if [2, 3, 4, 5, 10, 13].contains cls then hostOps.contains op else moduleOps.contains op

/-- The reserved bytes inside the data of an operation (Table 14-4), as their first place and number. -/
def reservedPlace (op : Nat) : Nat × Nat :=
  if op = opBlockRead then (17, 3) else if op = opBlockCrc then (9, 1)
  else if op = opAbort ∨ op = opUnlockReq ∨ op = opUnlockResp ∨ op = 0x91 ∨ op = 0xFF then (9, 3)
  else if op = 0x60 then (13, 3) else if op = 0x51 then (9, 7) else (0, 0)

/-- Whether the reserved bits inside a byte of the data are 0: [7:2] of an EVENT's FLAGS (R297), and [7] of FLAGS and [7:3] of ROLE in a
module heartbeat (Table 14-6). -/
def reservedBitsClear (b : List Byte) : Bool :=
  if field b 0 1 = 0x40 then decide (field b 10 1 < 4)
  else if field b 0 1 = 0x50 then decide (field b 10 1 < 128) && decide (field b 12 1 < 8)
  else true

/-- Whether every reserved field of a frame is 0 (Tables 14-3 and 14-4). -/
def reservedClear (b : List Byte) : Bool :=
  let op := field b 0 1
  let flags := field b 5 1
  let r := reservedPlace op
  field b 7 1 == 0 && (if op = opBlockSeg then !bitOf flags 6 else flags == 0) && ((b.drop r.1).take r.2).all (· == 0) &&
    reservedBitsClear b

/-- Whether a frame of a Grenz identifier is malformed (R301). -/
def malformedBytes (f : CanFrame) : Bool :=
  !f.fd || decide (f.data.length < 8) || !reservedClear f.data || !opFits (f.id / 64) (field f.data 0 1) ||
    decide (56 < field f.data 6 1) || decide (f.data.length - 8 < field f.data 6 1)

/-- Whether a frame concerns this module: a SYNC, a host heartbeat, or its own address. -/
def State.concerns (s : State) (f : CanFrame) : Bool := f.id / 64 == 1 || f.id / 64 == 14 || f.id % 64 == s.can.addr

/-- Whether the controller receives frames. -/
def State.hearsCan (s : State) : Bool := s.up && !s.can.busOff

/-- A stranger is ignored and counted. -/
def State.hearStranger (s : State) (f : CanFrame) : State :=
  if s.hearsCan && CanFrame.stranger f then s.onCan fun c => { c with strangers := inc32 c.strangers 1 } else s

/-- The Grenz message of a frame in a request class. -/
def CanFrame.message (f : CanFrame) : GrenzMsg :=
  let b := f.data
  ⟨⟨.can, f.id / 64, field b 1 1⟩, field b 0 1, field b 2 2, field b 4 1, field b 5 1, (b.drop 8).take (field b 6 1)⟩

/-- Whether a well-formed frame of a request class carries SYNC or HOST_HEARTBEAT, which that class does not allow (R301). -/
def CanFrame.misplaced (f : CanFrame) : Bool :=
  [2, 3, 4, 5, 10, 13].contains (f.id / 64) && [0x30, 0x51].contains (field f.data 0 1)

/-- A malformed frame is ignored and counted. A well-formed one whose class does not allow its OP is answered REFUSED (R301). -/
def State.hearMalformed (s : State) (f : CanFrame) : State :=
  if !s.hearsCan || CanFrame.stranger f || !s.concerns f then s
  else if malformedBytes f then s.onCan fun c => { c with malformed := inc32 c.malformed 1 }
  else if CanFrame.misplaced f then s.serve (CanFrame.message f) fun s => s.refuse (CanFrame.message f) 0x0F 0
  else s

/-- A frame has been received on an identifier (R302): in the module's own classes it is a clash, counted; the first raises EV100 and
mutes its answers. -/
def State.clash (s : State) (id : Nat) : State :=
  if s.hearsCan && [0, 6, 7, 8, 9, 11, 12].contains (id / 64) && id % 64 == s.can.addr then
    let first := !s.can.muted
    let s1 := s.onCan fun c => { c with clashes := inc32 c.clashes 1, muted := true }
    if first then s1.raise { ev := 100, data := u16 id } else s1
  else s

/-! ### A new address (R288) -/

/-- No request and no transfer is in progress. -/
def State.noRequest (s : State) : Bool := s.requestsWaiting.isEmpty && s.can.transfer.isNone

/-- The new address takes effect. -/
def State.applyAddr (s : State) : State :=
  match s.can.newAddr with
  | some a => if s.noRequest then s.onCan fun c => { c with addr := a, newAddr := none } else s
  | none => s

end Sys2Proof.Machine
end

