-- ==== Sys2Proof/Machine/CanPort.lean ====
section
/-! DEFINITION. The commands of the CAN port outside requests (R288, R296, R297, R299, R301 to R303). -/

namespace Sys2Proof.Machine

open Sys2Proof

/-- A SYNC frame of a group (R299). -/
def execSync (group tag : Nat) (s : State) : Host.Outcome State Fault Refusal :=
  .next (if s.hearsCan && group == s.par K.syncGroup then s.syncFrame (tag % 2 ^ 32) else s)

/-- HB_PERIOD_MS has expired (R296). `bus`: what the error confinement has counted on the bus since the heartbeat before (R303). -/
def execHeartbeat (s : State) (bus : List CanBusEvent := []) : Host.Outcome State Fault Refusal :=
  .next (if s.up then (bus.foldl State.busEvent s).beat else s)

/-- An EVENT frame may be sent (R297). -/
def execEventFrameTimer (s : State) : Host.Outcome State Fault Refusal := .next s.eventFrame

/-- The controller goes bus-off (R303). -/
def execCanBusOff (s : State) : Host.Outcome State Fault Refusal := .next s.enterBusOff

/-- The recovery sequence has completed (R303). -/
def execBusOffRecovered (s : State) : Host.Outcome State Fault Refusal := .next s.leaveBusOff

/-- A stranger (R301). -/
def execStrangerFrame (f : CanFrame) (s : State) : Host.Outcome State Fault Refusal := .next (s.hearStranger f)

/-- A malformed frame, or one whose class does not allow its OP (R301). -/
def execMalformedFrame (f : CanFrame) (s : State) : Host.Outcome State Fault Refusal := .next (s.hearMalformed f)

/-- A frame on the module's own identifier (R302). -/
def execAddrClash (id : Nat) (s : State) : Host.Outcome State Fault Refusal := .next (s.clash id)

/-- A new CAN address takes effect (R288). -/
def execCanAddrApply (s : State) : Host.Outcome State Fault Refusal := .next s.applyAddr

end Sys2Proof.Machine
end

