-- ==== Sys2Proof/Machine/Composition.lean ====
section
/-! DEFINITION. Commands of a composition: its binding, the end of its statistics pass, its rows, and the composition watchdog
(R13, R54, R83 to R89, R125, R126, R160 to R164, R205). -/

namespace Sys2Proof.Machine

open Sys2Proof

/-! ### Decode errors (R86) -/

/-- The tiles of a drawn PTC layer that a pass reads: those of the source pixels that fall inside the array (R75, R86, R104). -/
def tilesRead (d : LayerDraw) : List Nat :=
  let b := d.bind
  let inside := fun (lo : Int) (n top : Nat) => (upTo n).filter fun (i : Nat) => decide (0 ≤ lo + (i : Int) ∧ lo + (i : Int) < top)
  let xs := ((inside b.dstX b.srcW 2048).map fun i => (b.srcX + i) / 16).dedup
  let ys := ((inside b.dstY b.srcH 512).map fun i => (b.srcY + i) / 8).dedup
  (ys.map fun ty => xs.map fun tx => tilesX d.width * ty + tx).flatten

/-- The first tile of a drawn layer that does not decode (R86). -/
def Frame.badTile (f : Frame) (d : LayerDraw) : Option Nat :=
  if d.drawn && d.ptc then
    let img := (memRead f.surfMem d.base d.len).toArray
    (tilesRead d).find? fun t => (ptcTileAt img d.format d.width d.height t).isNone
  else none

/-- The first layer with a tile that does not decode: layer, surface, tile (R86). -/
def Frame.decodeError (f : Frame) : Option (Nat × Nat × Nat) :=
  (f.layers.zipIdx).findSome? fun e => (f.badTile e.1).map fun t => (e.2, e.1.bind.surface, t)

/-- Tiles that decoded at their second look are TRANSIENT (R86); their command judges the storm. -/
def State.decodeTransients (s : State) (retried : List (Fin 64 × Nat)) : State :=
  retried.foldl (fun s _ => s.noteTransient chkDecode []) s

/-- A LASTING decode error: EV018, DECODE_FAULT, and the pass restarts with the layer not ready (R86, R109); the
image is checked against SEAL_ACTUAL (R103, R109). -/
def State.decodeLasting (s : State) (f : Frame) (e : Nat × Nat × Nat) : State :=
  let s1 := s.onSurface e.2.1 fun u => { u with decodeFault := true, decodeTile := e.2.2 }
  let s2 := s1.raise { ev := 18, data := u16 e.1 ++ u16 e.2.1 ++ u32 e.2.2, lasting := true, check := chkDecode }
  let n := e.2.1
  (s2.requestScan ⟨.scrubSurf n, 0, s2.surfLen n⟩).restartWork f true

/-! ### The end of the statistics pass (R87, R125, R161, R164) -/

/-- A frame with its zone sums, its occupancy counts and the limiter's result (R87, R161 to R164, R216), for the slots that the zones
will use after its swap (R163, log 28). -/
def State.sumFrame (s : State) (f : Frame) (budget : Nat) : Frame :=
  let p := f.source
  let zones := (upTo 512).map fun z => let codes := f.zoneCodes p z; (sumNat codes, occupancy codes)
  s.limitFrame { f with slots := (upTo 512).map s.slotOf, sums := zones.map (·.1), occ := zones.map (·.2) } budget

/-- The signature that a pass formed of an INTENSITY window: the one of its intensities, but for a value that the pass formed wrongly. -/
def Frame.signatureFormed (f : Frame) (looks : PassLooks) (n : Nat) : Nat :=
  match looks.signatures.find? fun e => e.1.val == n with
  | some e => e.2
  | none => f.intensitySignature f.source n

/-- The first looks of the INTENSITY windows of a frame with the values formed: windows that mismatch, and those that match (R125). EXPECT_SELF
does not concern them (log 50). -/
def Frame.intensityLooks (f : Frame) (looks : PassLooks) : List (Nat × Nat) × List (Nat × Nat) :=
  let ns := (upTo 16).filter fun n => f.checksWindow n 0
  let vs := ns.map fun n => (n, f.signatureFormed looks n)
  (vs.filter fun e => e.2 != (f.expect e.1).expected, vs.filter fun e => e.2 == (f.expect e.1).expected)

/-- Mismatching first looks join the pending ones; a window that waits for its second look keeps the value of its first (R125, R198). -/
def addLooks (l : List (Nat × Nat)) (news : List (Nat × Nat)) : List (Nat × Nat) :=
  l ++ news.filter fun e => (kvGet l e.1).isNone

/-- The statistics pass of a composed frame ends without a decode error (R13, R87, R125, R164). SIG_ACTUAL takes no value of
a first look that mismatches (log 50). -/
def State.endStatistics (s : State) (f : Frame) (passLooks : PassLooks) : State :=
  let looks := f.intensityLooks passLooks
  let g := { s.sumFrame f s.budgetB with stage := .writing }
  let s1 := s.onTim fun t => { t with work := some g, loadRow := none, loadDone := false, lastLoaded := none, reload := false }
  let s2 := (s1.onComp fun c => { c with zoneSums := g.sums, zoneSumTag := g.tag }).onGlare fun q => { q with
    intLooks := addLooks q.intLooks looks.1 }
  looks.2.foldl (fun s e => s.windowMatches e.1 e.2) (s2.markUnchecked g 0)

/-- A tile of a drawn PTC layer that a pass read in error at both looks (R86): layer, surface, tile. -/
def Frame.tileMisread (f : Frame) (looks : PassLooks) : Option (Nat × Nat × Nat) :=
  match looks.failed with
  | none => none
  | some (k, t) =>
    match f.layers[k.val]? with
    | some d => if d.drawn && d.ptc then some (k.val, d.bind.surface, t) else none
    | none => none

/-- A tile that the statistics pass could not decode at either look: read in error twice, or stored in error (R86). -/
def Frame.tileLost (f : Frame) (looks : PassLooks) : Option (Nat × Nat × Nat) :=
  match f.tileMisread looks with
  | some e => some e
  | none => f.decodeError

/-- STATISTICS_PASS_END (R13): the pass of the work frame ends, with what its second looks of tiles and its signatures gave. -/
def execStatisticsPassEnd (looks : PassLooks) (s : State) : Host.Outcome State Fault Refusal :=
  .next (match s.tim.work with
    | none => s
    | some f =>
      if f.stage == .statistics && f.kind != .fallback then
        let s1 := s.decodeTransients looks.retried
        (match f.tileLost looks with
          | some e => s1.decodeLasting f e
          | none => s1.endStatistics f looks).judgeStormsSince s.flt.counts
      else s)

/-! ### Rows of the write pass (R88, R89) -/

/-- The WORK bank with a row's codes written (R15, R49, R88). -/
def State.writeRow (s : State) (y : Nat) (codes : List Nat) : State :=
  s.onTim fun t =>
    if t.fs1Displayed then { t with bank0 := bankWriteRow t.bank0 y codes } else { t with bank1 := bankWriteRow t.bank1 y codes }

/-- The WORK bank with the codes of every row written, from row 0 on (R15, R49, R88). -/
def State.writeRows (s : State) (rows : List (List Nat)) : State :=
  let bs := (rows.map rowCodes).flatten
  s.onTim fun t => if t.fs1Displayed then { t with bank0 := memWrite t.bank0 0 bs } else { t with bank1 := memWrite t.bank1 0 bs }

/-- The INTENSITY windows whose second look falls on a row, with their first looks: those that mismatched, in this composition or in one
abandoned before it, that the frame checks and that end there (R125, R198). -/
def State.lookAgain (s : State) (f : Frame) (y : Nat) : List (Nat × Nat) :=
  s.glare.intLooks.filter fun e => f.checksWindow e.1 0 && (f.win e.1).y1 == y

/-- The second look of an INTENSITY window (R125): a match is TRANSIENT, a second mismatch LASTING. -/
def State.secondIntensity (s : State) (f : Frame) (looks : PassLooks) (first : Nat × Nat) : State :=
  let v := f.signatureFormed looks first.1
  if v = (f.expect first.1).expected then s.windowTransient first.1 first.2 v else s.windowLasting f first.1 v

/-- The INTENSITY windows of a row whose second look is LASTING (R125). -/
def State.intensityLasting (s : State) (f : Frame) (looks : PassLooks) (y : Nat) : List Nat :=
  ((s.lookAgain f y).map (·.1)).filter fun n => f.signatureFormed looks n != (f.expect n).expected

/-- A composition that had failed a look and whose write pass ends is TRANSIENT (R197, R205). -/
def State.endWrite (s : State) (f : Frame) : State :=
  let g := { f with stage := .written, sigSelf := f.selfSignatures }
  let s1 := (s.onTim fun t => { t with work := some g }).applyQueue
  if f.restarted then s1.transient chkComposition [] else s1

/-- A row of the write pass is in the bank, its INTENSITY windows are judged, and under WINDOW_BLANK a LASTING one restarts the
composition (R89, R125, R126). -/
def State.endRow (s : State) (f : Frame) (looks : PassLooks) : State :=
  let y := f.rowsDone
  let g := { f with rowsDone := y + 1 }
  let s0 := (s.writeRow y (f.rowOf f.source y)).onTim fun t => { t with work := some g }
  let s1 := s0.onGlare fun q => { q with intLooks := q.intLooks.filter fun e => !(s.lookAgain f y).contains e }
  let bad := s.intensityLasting f looks y
  let s2 := (((s.lookAgain f y).foldl (fun s e => s.secondIntensity f looks e) s1).reactAll (s1.windowReactions f bad)).judgeStormsSince
    s.flt.counts
  if !bad.isEmpty && s2.par K.reactSignature == 1 then s2.restartWork f true
  else if y = 511 && s2.tim.work.map (fun w => (w.kind, w.rowsDone)) == some (f.kind, 512) then s2.endWrite g
  else s2

/-- ROW_COMPLETE (R89): the next row of the work frame is in the bank. A LASTING decode error instead abandons the frame, whose
composition restarts from the statistics pass (R86). -/
def execRowComplete (looks : PassLooks) (s : State) : Host.Outcome State Fault Refusal :=
  .next (match s.tim.work with
    | none => s
    | some f =>
      if f.stage == .writing && f.kind != .fallback then
        let s1 := s.decodeTransients looks.retried
        (match f.tileMisread looks with
          | some e => s1.decodeLasting f e
          | none => s1.endRow f looks).judgeStormsSince s.flt.counts
      else s)

/-! ### The composition watchdog (R205) -/

/-- COMPOSITION_WATCHDOG (R205): a first failure restarts the composition, a failure of the restart is LASTING. -/
def execCompositionWatchdog (stage : CompStage) (s : State) : Host.Outcome State Fault Refusal :=
  .next (match s.tim.work with
    | none => s
    | some f =>
      if f.kind == .fallback || f.stage == .written then s
      else if f.restarted then
        let s1 := s.abandonReturning.raise
          { ev := 86, data := u8 (stageNum stage) ++ u32 f.tag, lasting := true, check := chkComposition }
        s1.react (s1.par K.reactComposition) [] (s1.evSeverity 86)
      else s.restartWork { f with restarted := true } false)

/-! ### Binding (R54) -/

/-- COMMIT_BIND (R54): the oldest validated commit is bound. -/
def execCommitBind (s : State) : Host.Outcome State Fault Refusal :=
  .next (match s.tim.toBind with
    | [] => s
    | c :: rest => (s.onTim fun t => { t with toBind := rest }).bindCommit c)

end Sys2Proof.Machine
end

