-- ==== Sys2Proof/Machine/Fallback.lean ====
section
/-! DEFINITION. The commands of host presence, the light-request pins and the fallback beam (R209, R215 to R220, R296), and VIN
derating (R22). -/

namespace Sys2Proof.Machine

open Sys2Proof

/-- HOST_HEARTBEAT (R220, R296): a class 14 frame from ADDR HOST_ADDR; others are ignored and counted. -/
def execHostHeartbeat (addr _seq : Nat) (s : State) : Host.Outcome State Fault Refusal :=
  if !s.up || s.can.busOff then .next s
  else if addr = s.par K.hostAddr then .next (s.onFlt fun f => { f with beat := some s.now }).judgePresence
  else .next (s.onCan fun c => { c with foreignBeats := inc32 c.foreignBeats 1 })

/-- HOST_LOSS_TIMEOUT (R220). -/
def execHostLossTimeout (pins : LightPins) (s : State) : Host.Outcome State Fault Refusal :=
  .next (if s.up then s.lossTimeout pins else s)

/-- LIMP_N_LOW_TIMEOUT (R218): LIMP_N has been low for 10 ms. -/
def execLimpNLowTimeout (s : State) : Host.Outcome State Fault Refusal :=
  let s1 := s.onPwr fun p => { p with limpLow := true }
  .next (if s1.up then (s1.engage .limpN).tryThermalExit else s1)

/-- LIMP_N_HIGH_TIMEOUT (R219): LIMP_N has been high for 100 ms. -/
def execLimpNHighTimeout (lightOn : Bool) (s : State) : Host.Outcome State Fault Refusal :=
  let s1 := s.pins ⟨lightOn, false⟩
  .next (if s1.up then s1.clearFb .limpN else s1)

/-- LIGHT_ON_TIMEOUT (R218): LIGHT_ON has been asserted for 10 ms. At power-up and after a resume, while no host has been present or
lost yet, the cause waits for HOST_LOSS_TIMEOUT (Table 10-7, R355). -/
def execLightOnTimeout (s : State) : Host.Outcome State Fault Refusal :=
  let s1 := s.onPwr fun p => { p with lightOn := true }
  .next (if s1.up then (if s1.flt.hostLostRaised then (s1.engage .lightOnNoHost).tryThermalExit else s1) else s1)

/-- FB_RENDER_PERIOD (R217). -/
def execFbRenderPeriod (s : State) : Host.Outcome State Fault Refusal := .next s.fireRender

/-- RENDER_SUMS_DONE (R215, R216): the sum pass of a render ends and the limiter returns L. `reread`: the copies of images that passed their
second look only as the render read them (R214, R281). -/
def execRenderSumsDone (s : State) (reread : List (RecordId × CopyId) := []) : Host.Outcome State Fault Refusal :=
  .next (match s.tim.work with
    | none => s
    | some f =>
      if f.kind == .fallback && f.stage == .statistics then
        let g := { s.sumFrame f (min s.budgetB (s.par K.fbBudget)) with stage := .writing }
        (((s.onTim fun t => { t with work := some g }).onFlt fun q => { q with renderBudgets := s.renderBudgets }).rereadCopies
          RecordId.isImage reread).judgeStormsSince s.flt.counts
      else s)

/-- RENDER_CODES_DONE (R88, R215): the code pass of a render has written every row, and signals them complete together. -/
def execRenderCodesDone (s : State) : Host.Outcome State Fault Refusal :=
  .next (match s.tim.work with
    | none => s
    | some f =>
      if f.kind == .fallback && f.stage == .writing then
        let g := { f with stage := .written, rowsDone := 512, sigSelf := f.selfSignatures }
        let p := f.source
        (s.writeRows ((upTo 512).map (f.rowOf p))).onTim fun t => { t with work := some g }
      else s)

/-- SUPERVISOR_LIMP_ATTEMPT (R209): 1.0 s after entry to SAFE_DARK with cause SUPERVISOR, with no host present and LIMP_N asserted,
one attempt is made at the fallback beam. -/
def execSupervisorLimpAttempt (s : State) : Host.Outcome State Fault Refusal :=
  .next s.limpAttempt

/-- VIN_DERATING_CHANGE (R22, R59, R217): the 1 ms mean of VIN has a new value, and the budget in force follows it. -/
def execVinDeratingChange (vinMv : Nat) (s : State) : Host.Outcome State Fault Refusal :=
  .next (s.onPwr fun p => { p with vinMv := vinMv }).judgeBudgets

end Sys2Proof.Machine
end

