-- ==== Sys2Proof/Machine/Frames.lean ====
section
/-! DEFINITION. The slot grid, scan-out and the swap (chapter 3), a zone's cycle beginning (R26, R30, R33 to R36), and half lock (R63,
R64). -/

namespace Sys2Proof.Machine

open Sys2Proof

/-! ### Staged timing values (R66) -/

/-- The staged value of a key, else the value in force. -/
def stagedOr (l : List Staged) (key old : Nat) : Nat :=
  match l.find? fun e => e.key == key with
  | some e => e.value
  | none => old

/-- The transfer at the end of the slot that loads APPLY_ROW (R65, R66). An inconsistent pair stays staged, and a
staged LINE_MATCH_ROW is transferred beside it (log 28). -/
def State.transferStaged (s : State) : State :=
  let q := s.tim.staged
  let lo := stagedOr q K.frameMin s.tim.minCyc
  let hi := stagedOr q K.frameMax s.tim.maxCyc
  let lm := stagedOr q K.lineMatch s.tim.lineMatch
  let ok := decide (lo ≤ hi) && decide (s.margin ≤ hi)
  let s1 := s.onTim fun t => { t with
    minCyc := if ok then lo else t.minCyc, maxCyc := if ok then hi else t.maxCyc, lineMatch := lm,
    staged := t.staged.filter fun e => e.key != K.lineMatch && !ok }
  let s2 := if ok then (s1.putPar K.frameMin lo).putPar K.frameMax hi else s1
  s2.putPar K.lineMatch lm

/-! ### Slots (R47, R48, R53, R61, R62) -/

/-- The number of a kind of frame in EV001 and EV003 (Table 17-5). -/
def FrameKind.num : FrameKind → Nat
  | .committed => 0 | .refresh => 1 | .fallback => 2

/-- The tag and the kind of the work frame. -/
def State.workTag (s : State) : Nat × Nat :=
  match s.tim.work with
  | some f => (f.tag, f.kind.num)
  | none => (0, 0)

/-- What the end of the slot that loaded row `r` brings: EV002, and the transfer at APPLY_ROW (R53, R66). -/
def State.slotEnds (s : State) (r : Nat) : State :=
  let s1 := if r = s.tim.passMatchRow then s.raise { ev := 2, data := u16 r ++ u32 s.workTag.1 } else s
  if r = s.par K.applyRow then s1.transferStaged else s1

/-- LOAD_DONE is asserted: EV001 (R48, R53). -/
def State.loadDone (s : State) : State :=
  (s.onTim fun t => { t with loadDone := true, loadRow := none, lastLoaded := none }).raise
    { ev := 1, data := u32 s.workTag.1 ++ u8 s.workTag.2 }

/-- The slot just ended is finished at the start of the next one. `lastLoaded` 512 stands for a row 511 whose slot ended on a
boundary. -/
def State.finishSlot (s : State) : State :=
  match s.tim.lastLoaded with
  | none => s
  | some r =>
    let s1 := if r < 512 then s.slotEnds r else s
    if 511 ≤ r then s1.loadDone else s1.onTim fun t => { t with lastLoaded := none }

/-- The slot that ends on a boundary is finished; LOAD_DONE would come one PIXCLK period later (R48, R51). -/
def State.finishSlotAtBoundary (s : State) : State :=
  match s.tim.lastLoaded with
  | none => s
  | some r =>
    if r < 511 then (s.slotEnds r).onTim fun t => { t with lastLoaded := none }
    else if r = 511 then (s.slotEnds r).onTim fun t => { t with lastLoaded := some 512 }
    else s

/-- The WORK bank (R49). -/
def State.workBank (s : State) : List Host.Cell := if s.tim.fs1Displayed then s.tim.bank0 else s.tim.bank1

/-- A row of codes placed in latches; a row of zeros is not listed (R23). -/
def putRow (l : List (Nat × List Nat)) (r : Nat) (codes : List Nat) : List (Nat × List Nat) :=
  if codes.all (· == 0) then kvDel l r else kvSet l r codes

/-- Row `r` is loaded from a bank into the shadow latches of both halves (R47). -/
def State.loadFrom (s : State) (bank : List Host.Cell) (r : Nat) : State :=
  s.onTim fun t => { t with
    shadow := putRow t.shadow r (bankRow bank r), lastLoaded := some r, loadRow := if r = 511 then none else some (r + 1) }

/-- Whether a row meets a box or an active signature window of a frame (R62). -/
def Frame.meetsRow (f : Frame) (r : Nat) : Bool :=
  f.boxSet.any (fun b => b.2.2.coversRow r) ||
    (upTo 16).any fun n => (f.expect n).armed && !f.blanked.getD n false && (f.win n).box.coversRow r

/-- An underrun of row `r` (R61, R62): EV004 with its action, REPEAT_FRAME (0), SUBSTITUTED (1) or REPEAT_FORCED (2). -/
def State.underrun (s : State) (f : Frame) (r : Nat) : State :=
  let forced := f.meetsRow r || decide (8 ≤ s.tim.underruns)
  let act := if s.tim.passPolicy = 0 then 0 else if forced then 2 else 1
  let s1 := s.raise { ev := 4, data := u16 r ++ u8 act }
  if act = 1 then
    (s1.loadFrom s1.dispBank r).onTim fun t => { t with
      underruns := t.underruns + 1, work := some { f with mixedRows := setAdd f.mixedRows r } }
  else s1.onTim fun t => { t with loadRow := none, lastLoaded := none, reload := true, passPolicy := 0 }

/-- Whether a load pass may begin: the first row is complete, or every row for a frame marked for reload (R48, R61). -/
def State.mayLoad (s : State) (f : Frame) : Bool :=
  !s.tim.loadDone && decide (1 ≤ f.rowsDone) && (!s.tim.reload || f.rowsDone == 512)

/-- A load pass begins with row 0 (R48, R51, R61, R65). -/
def State.beginLoad (s : State) : State :=
  (s.onTim fun t => { t with
    lockOk := true, reload := false, underruns := 0, passPolicy := t.underPolicy, passMatchRow := t.lineMatch,
    work := t.work.map fun f => { f with mixedRows := [] } }).loadFrom s.workBank 0

/-- A slot begins (R47, R48). -/
def State.beginSlot (s : State) : State :=
  if s.tim.stopped then s
  else match s.tim.work with
  | none => s
  | some f =>
    match s.tim.loadRow with
    | none => if s.mayLoad f then s.beginLoad else s
    | some r => if r < f.rowsDone then s.loadFrom s.workBank r else s.underrun f r

/-- An underrun of row slot 0 is handled with the boundary that begins the slot, so that EV004 comes before that boundary's later
events (R53, R337). -/
def State.underrunAtBoundary (s : State) : State :=
  match s.tim.work, s.tim.loadRow with
  | some f, some r =>
    if !s.tim.stopped && decide (f.rowsDone ≤ r) then (s.underrun f r).onTim fun t => { t with slotZero := true } else s
  | _, _ => s

/-- ROW_SLOT_START (R48): the slot just ended is finished, and the next one begins. -/
def execRowSlotStart (s : State) : Host.Outcome State Fault Refusal :=
  .next (if !(s.pwr.scan && s.pwr.comp) then s
    else if s.tim.slotZero then s.onTim fun t => { t with slotZero := false }
    else s.finishSlot.beginSlot)

/-! ### The swap (R51, R52) -/

/-- Whether the swap occurs at a boundary at which the displayed frame has served a count (R51). -/
def State.swaps (s : State) (served : Nat) : Bool :=
  match s.tim.work with
  | some f => s.tim.loadDone && s.tim.lockOk && !s.tim.reload && decide (s.earliest f ≤ served)
  | none => false

/-- The latch copy, the roles and the counts of a swap (R23, R49, R51, R52), and the AT_SWAP policies (R65). -/
def State.copyLatches (s : State) (f : Frame) : State :=
  s.onTim fun t => { t with
    active := t.shadow, fs1Displayed := !t.fs1Displayed, frameCount := inc32 t.frameCount 1,
    displayedTag := if f.kind = .committed then f.tag else t.displayedTag,
    disp := f, work := none, served := 0, heldRaised := false, loadDone := false, loadRow := none, lastLoaded := none,
    maxFired := false, policy := s.par K.commitPolicy, underPolicy := s.par K.underrunPolicy }

/-- A zone with a phase slot to take at its next cycle beginning: its cycle in progress is stretched to end at the new offset (R30). -/
def Zone.moveTo (z : Zone) (slot : Nat) : Zone :=
  { z with
    newSlot := if slot = z.slot then none else some slot, stretched := slot != z.slot, length := stretchedLength z.slot slot }

/-- Zones take their new phase slot at their next cycle beginning, and no zone cycle in progress began in the new frame (R30,
R204). -/
def State.swapZones (s : State) : State :=
  let slot := fun z => s.slotOf z
  s.onZones fun i z => { z.moveTo (slot i) with whole := false }

/-- The swap itself, with EV005 (REFRESH) before EV003 (R51, R53); a host scan of the DISPLAYED bank ends (R279). -/
def State.swapNow (s : State) (f : Frame) (served : Nat) : State :=
  let s1 := if f.kind = .refresh then s.raise { ev := 5, data := u8 0 ++ u16 served } else s
  let vs := s1.currentVerdicts
  let s2 := (((s1.takeVerdicts vs).copyLatches f).swapZones).raise
    { ev := 3, data := u32 (if f.kind = .committed then f.tag else s1.tim.displayedTag) ++ u8 f.kind.num }
  (s2.abortScan (fun j => j.user == .host && s.par K.crcsSource == 2) 2).judgeStuck.judgeStuckLooks

/-- Whether a held trigger still holds against the frame just swapped (R59, R126, R331). -/
def State.stillHolds (s : State) (f : Frame) : Trigger → Bool
  | .max => false
  | .reflex => decide (s.reflexBoxes ≠ f.reflexBoxes)
  | .window => decide ((s.glare.windows.map fun w => w.isBlanked) ≠ f.blanked)
  | .budget => s.budgetFell f
  | .release => true
  | .native => true

/-- After a swap: the deferred commit starts, or a held trigger that still holds (R54, R59); in FALLBACK, a held render (R217). -/
def State.afterSwap (s : State) (f : Frame) : State :=
  let hold := s.tim.held.filter fun t => s.stillHolds f t
  let s1 := s.onTim fun t => { t with held := [] }
  if s1.pwr.dev == .fallback then
    let s2 := s1.onFlt fun g => { g with renderOn := false, renderHeld := false }
    if s.flt.renderHeld then s2.startRender else s2
  else if !s1.mayCompose then s1
  else match s1.tim.pend, hold with
    | some c, _ => s1.startCommit c
    | none, t :: _ => s1.startRefresh t
    | none, [] => s1

/-- EV049 and its release (R165). -/
def State.judgeLimiter (s : State) : State :=
  let f := s.tim.disp
  if f.limit < 32768 then
    if s.sup.limiterActive then s
    else (s.onSup fun u => { u with limiterActive := true }).raise { ev := 49, data := u16 f.limit ++ u8 f.rule }
  else if s.sup.limiterActive then (s.onSup fun u => { u with limiterActive := false }).releaseFree 49
  else s

/-- A divergence followed by a swap with the lock held is TRANSIENT (R64). Its second look finds LEFT and RIGHT equal; the spec does not
state at what value: free (log 8). -/
def State.lockHeld (s : State) : State :=
  match s.tim.diverged with
  | none => s
  | some (field, left, right) =>
    let (v, s1) := (s.onTim fun t => { t with diverged := none }).drawUnstated 2
    s1.noteTransient chkHalfLock (u8 field ++ u16 left ++ u16 right ++ u8 field ++ v ++ v)

/-- What a swap brings beside the swap itself, after EV033: cadence, EV049, the guard pass, the monitor copy (R90, R128, R147, R165). -/
def State.swapRest (s : State) : State :=
  let s1 := s.swapSense.judgeLimiter.lockHeld
  let marked := s1.markUnchecked s1.tim.disp 1
  let s2 := if s1.tim.disp.kind == .fallback then marked.markUnchecked s1.tim.disp 0 else marked
  s2.beginGuard.beginMonitor

/-- EV005 (HELD) (R51, R60). -/
def State.judgeHeld (s : State) : State :=
  if s.tim.maxCyc ≤ s.tim.served ∧ !s.tim.heldRaised ∧ s.pwr.dev ≠ .fallback then
    (s.onTim fun t => { t with heldRaised := true }).raise { ev := 5, data := u8 1 ++ u16 s.tim.served }
  else s

/-- The MAX trigger (R59). -/
def State.judgeMax (s : State) : State :=
  if !s.tim.maxFired && decide (s.tim.maxCyc ≤ s.tim.served + s.margin) && s.mayCompose && !s.composing && s.tim.pend.isNone then
    (s.onTim fun t => { t with maxFired := true }).fire .max
  else s

/-- The slot grid at a boundary: the slot that ends on it, its time, and engines that a divergence stopped (R46, R63). -/
def State.gridBoundary (s : State) : State :=
  let s1 := s.finishSlotAtBoundary
  let s2 := if s1.tim.stopped then
      s1.onTim fun t => { t with stopped := false, loadRow := none, loadDone := false, lastLoaded := none }
    else s1
  (s2.onZones fun _ z => { z with laps := z.laps + 1 }).onTim fun t => { t with
    boundaryAt := s.now, count := 0, slotZero := false, served := min (t.served + 1) 65535 }

/-- A sense cycle that begins marks the zone cycles in progress, but not those that end on the boundary (R36). -/
def State.markZones (s : State) : State :=
  s.onZones fun _ z => if z.endsOnBoundary then z else { z with marked := true }

/-- A sense cycle begins where one is due (R130, R36). -/
def State.senseDue (s : State) : State :=
  let s1 := s.maybeBeginSense
  if s1.sense.inCycle && !s.sense.inCycle then s1.markZones else s1

/-- The work of a boundary before the storms of its TRANSIENT results are judged (R46, R51, R130, R157, R34). -/
def State.boundaryWork (s : State) : State :=
  let s1 := (s.gridBoundary).countSense
  match s1.swaps s1.tim.served, s1.tim.work with
  | true, some f =>
    let vs := s1.currentVerdicts
    let s2 := ((s1.swapNow f s1.tim.served).afterSwap f).judgeMax
    let s3 := (s2.endSense.swapRest).boundaryEngine
    ((s3.endEstimates s2).raiseCurrents vs).judgeHealth.senseDue.grantClosings.regainSensing
  | _, _ =>
    let s2 := s1.underrunAtBoundary.judgeHeld.judgeMax
    let s3 := s2.endSense.boundaryEngine
    (s3.endEstimates s2).senseDue.grantClosings.regainSensing

/-- The work of a boundary, in ascending number of the events it raises (R337). -/
def State.boundary (s : State) : State := s.boundaryWork.judgeStormsSince s.flt.counts

/-- GLOBAL_CYCLE_BOUNDARY (R51). -/
def execGlobalCycleBoundary (s : State) : Host.Outcome State Fault Refusal :=
  .next (if s.pwr.scan && s.pwr.comp && s.pwr.life == .running then s.boundary else s)

/-! ### A zone's cycle begins (R26, R30, R33, R34, R36) -/

/-- The sample of the zone cycle that ends enters its zone (R36, R204). -/
def State.takeSample (s : State) (i : Nat) (ua : Nat) : State :=
  let eligible := !s.sup.hsZones.contains i && !s.bandMixed i
  s.onZone i fun z =>
    let z1 := if z.marked then z else { z with samples := (ua :: z.samples).take 16 }
    let z2 := if !z.marked && z.whole && z.closedWhole && eligible then
        { z1 with eligSum := z1.eligSum + ua, eligCnt := z1.eligCnt + 1 }
      else z1
    if z.whole && z.openWhole then { z2 with openSeen := true, openMax := max z2.openMax ua } else z2

/-- The switch of a zone at its cycle beginning: an opening wins over a closing, and a zone that nothing holds any longer is scheduled
to close again (R33 to R35). Through a sense cycle switches keep their positions, but for an opening that ends it (R130, R131). -/
def State.switchZone (s : State) (i : Nat) : State :=
  if s.sense.inCycle && !s.sup.offDue then s
  else
    let may := s.mayClose
    s.onZone i fun z =>
      if z.openAtCycle then (let o := z.openNow s.now; if may then o.schedule else o)
      else if z.closeGrant && z.closing && may && s.vledInBand && !z.heldOpen then
        { z with closed := true, closing := false, closeGrant := false }
      else z

/-- The cycle that begins: its slot, and what it is so far (R30, R36, R204). -/
def State.newZoneCycle (s : State) (i : Nat) : State :=
  let inSense := s.sense.inCycle
  (s.onZone i fun z => { z with
    slot := z.newSlot.getD z.slot, newSlot := none, stretched := false, length := 4096, laps := 0, whole := true,
    closedWhole := z.closed, openWhole := !z.closed, marked := inSense }).onTim fun t => { t with
      count := offsetOf ((s.zone i).newSlot.getD (s.zone i).slot) }

/-- ZONE_CYCLE_BEGIN (R26): the sample of the cycle that ends, the switch, and the new cycle. An opening on the way out of LIT or
FALLBACK ends a sense cycle (R130), and the last one turns VLED off (R155). -/
def execZoneCycleBegin (z : Fin 512) (sampleUa : Int) (s : State) : Host.Outcome State Fault Refusal :=
  .next (if s.pwr.emit && s.pwr.life == .running then
      let opens := (s.zone z.val).openAtCycle
      let s1 := (s.takeSample z.val sampleUa.toNat).switchZone z.val
      let s2 := if opens && s1.sup.offDue then s1.cutSense else s1
      (s2.newZoneCycle z.val).vledOffIfOpen
    else s)

/-! ### Half lock (R63, R64) -/

/-- HALF_LOCK_DIVERGENCE (R63): both engines stop until the next boundary; a second divergence before a swap with the lock held is
LASTING. -/
def execHalfLockDivergence (field left right : Nat) (s : State) : Host.Outcome State Fault Refusal :=
  .next (if !s.pwr.scan then s
    else
      let second := s.tim.diverged.isSome
      let s1 := s.onTim fun t => { t with
        stopped := true, lockOk := false, loadDone := false, loadRow := none, lastLoaded := none,
        diverged := if second then none else some (field, left, right) }
      let data := u8 field ++ u16 left ++ u16 right
      if second then
        (s1.raise { ev := 6, data := data, lasting := true, check := chkHalfLock }).react (s1.par K.reactHalfLock) [] (s1.evSeverity 6)
      else s1.raise { ev := 6, data := data, check := chkHalfLock, fixedSev := some 0, fixedLatchRoute := some (false, 8) })

end Sys2Proof.Machine
end

