-- ==== Sys2Proof/Machine/Guard.lean ====
section
/-! DEFINITION. Commands of the guard checker and of the monitor copy (R90, R125 to R129). -/

namespace Sys2Proof.Machine

open Sys2Proof

/-- GUARD_PASS_DONE (R128): a guard pass in progress ends. -/
def execGuardPassDone (misread : Misreads) (s : State) : Host.Outcome State Fault Refusal :=
  .next (if s.glare.guardRunning && s.pwr.comp then s.guardPass misread else s)

/-- GUARD_REREAD_DONE (R125, R129): the second looks complete. -/
def execGuardRereadDone (misread : Misreads) (s : State) : Host.Outcome State Fault Refusal :=
  .next (if s.pwr.comp then s.guardReread misread else s)

/-- MONITOR_COPY_DONE (R90). -/
def execMonitorCopyDone (s : State) : Host.Outcome State Fault Refusal := .next s.finishMonitor

end Sys2Proof.Machine
end

