-- ==== Sys2Proof/Machine/Lanes.lean ====
section
/-! DEFINITION. The commands of the Vexlink lanes (R233 to R246). -/

namespace Sys2Proof.Machine

open Sys2Proof

/-- RX_LOCKED (R233): clock and data recovery has locked on every active lane; the receiver enters ALIGN. -/
def execRxLocked (s : State) : Host.Outcome State Fault Refusal :=
  .next (if s.pwr.link && (s.bringing .lock || s.vex.rx == .off) then
      s.rxRestart.onVex fun v => { v with rx := .align }
    else s)

/-- ALIGN_POLL (R234): one pass of the alignment loop for one lane. -/
def execAlignPoll (lane : Fin 4) (look : LaneLook) (s : State) : Host.Outcome State Fault Refusal :=
  .next (if s.laneService && s.bringing .align && !(s.vex.lanes.getD lane.val Lane.reset).aligned then
      (s.onVex fun v => { v with lanes := v.lanes.modify lane.val fun l => l.poll look }).afterPoll lane.val
    else s)

/-- DESKEW_DONE (R235): the arrival times of the markers, in UI. -/
def execDeskewDone (arrivalUi : List Nat) (s : State) : Host.Outcome State Fault Refusal :=
  .next (if s.pwr.link && s.bringing .deskew then s.deskew arrivalUi else s)

/-- LANE_MAP_ACCEPTED (R236): LANE_INFO of each physical lane over 8 TRN sets. -/
def execLaneMapAccepted (laneInfo : List (Option Byte)) (s : State) : Host.Outcome State Fault Refusal :=
  .next (if s.laneService && s.bringing .enum then
      match laneMapFault s.vxLanes (s.par K.vxWidth) laneInfo with
      | some (lane, reason) => s.laneFail lane reason
      | none => s.comeUp laneInfo
    else s)

/-- BRINGUP_RETRY (R233): 100 us after a failure the receiver returns to LOCK. -/
def execBringupRetry (lane : Fin 4) (reason : LaneFail) (s : State) : Host.Outcome State Fault Refusal :=
  .next (if s.pwr.link && [RxState.lock, .align, .deskew, .enum].contains s.vex.rx then
      (if s.vex.retryDue then s else s.laneFail lane.val reason).rxRestart
    else s)

/-- Whether a physical lane is active: the lane map gives it a logical lane (R236). -/
def State.laneActive (s : State) (lane : Nat) : Bool := (s.vex.lanes.getD lane Lane.reset).logical.isSome

/-- LINK_LOSS (R230, R238 to R240): a condition of Table 11-7 on an active lane; a packet being forwarded ends with K30.7, and the
receiver returns to LOCK. -/
def execLinkLoss (lane : Fin 4) (_kind : LossKind) (s : State) : Host.Outcome State Fault Refusal :=
  .next (if s.pwr.link && s.vex.rx == .up && s.laneActive lane.val then
      s.rxRestart.onVex fun v => { v.endOpen with lost := true, lostTimed := false }
    else s)

/-- VX_LOSS_TIMEOUT (R240): the receiver has not been UP for VX_LOSS_MS after a loss. -/
def execVxLossTimeout (s : State) : Host.Outcome State Fault Refusal :=
  .next (if s.vex.lost && !s.vex.lostTimed then s.lossLasting else s)

/-- TX_IDLE_TIMEOUT (R242, R243, R245). `cancelled`: a wake burst or an own packet arrives while the announcement sets are being sent,
and the transmitter goes on with TRAIN. A timer that expires during a wake leaves it in L0. -/
def execTxIdleTimeout (s : State) (cancelled : Bool := false) : Host.Outcome State Fault Refusal :=
  .next (if s.pwr.link && s.vex.txLane == .l0 && s.par K.vxTxIdle != 0 && s.vex.rxLane != .l0 && !s.outputWaits && !s.forwarding &&
      !s.vex.wakeLock then
      (if cancelled then s.onVex fun v => { v with out := .train :: .announce 1 :: v.out } else s.txAnnounce 1 .l1)
    else s)

/-- ANNOUNCE_RECEIVED (R243): eight announcement sets and electrical idle; TRAIN leaves the receiver UP. -/
def execAnnounceReceived (level : Fin 3) (s : State) : Host.Outcome State Fault Refusal :=
  .next (if s.pwr.link && s.vex.rx == .up then
      match level.val with
      | 1 => s.onVex fun v => { v with rx := .sleep, rxLane := .l1 }
      | 2 => (s.onVex fun v => { v with rx := .off, rxLane := .l2 }).judgeLink
      | _ => s
    else s)

/-- WAKE_BURST_DETECTED (R244, R245): a sleeping receiver relocks and the transmitter passes the burst on; a receiver in L2 comes up
blind when Vexlink wake is enabled. -/
def execWakeBurstDetected (s : State) : Host.Outcome State Fault Refusal :=
  .next (
    if !s.up then s
    else if s.pwr.link && s.vex.rx == .sleep then (s.onVex fun v => { v with wakeLock := true }).txWake
    else if s.ctrlDark then s
    else if bitOf (s.par K.wakeEnable) 5 && s.vex.rxLane == .l2 then s.linkUp.rxRestart.txWake
    else s)

/-- OWN_PACKET_QUEUED (R244, R245): the transmitter leaves L1 for an own packet. -/
def execOwnPacketQueued (s : State) : Host.Outcome State Fault Refusal :=
  .next (if s.pwr.link && s.outputWaits then s.txWake else s)

/-- TX_RESTART (R246): 100 us after GOING_L2 the transmitter restarts at the new setting. -/
def execTxRestart (s : State) : Host.Outcome State Fault Refusal :=
  .next (if s.pwr.link && s.vex.restart then
      s.onVex fun v => { v with restart := false, txLane := .l0, out := .restart :: v.out }
    else s)

/-- WAKE_RELOCK_DONE (R244): the sleeping receiver has relocked on a wake burst, or has not and comes up blind. -/
def execWakeRelockDone (ok : Bool) (s : State) : Host.Outcome State Fault Refusal :=
  .next (if s.pwr.link && s.vex.rx == .sleep && s.vex.wakeLock then
      (if ok then s.onVex fun v => { v with rx := .up, rxLane := .l0, wakeLock := false } else s.rxRestart)
    else s)

end Sys2Proof.Machine
end

