-- ==== Sys2Proof/Machine/Orders.lean ====
section
/-! DEFINITION. The commands that are writes of one object: each reaches its object through the checks and the operations of any write
(R311), at the access level of its transport, and is answered (R290). -/

namespace Sys2Proof.Machine

open Sys2Proof

/-- CRCS_CMD START (R283). -/
def execCrcsStart (r : Req) (s : State) : Host.Outcome State Fault Refusal := .next (s.writeNum r K.crcsCmd 1 1)

/-- CRCS_CMD ABORT (R283). -/
def execCrcsAbort (r : Req) (s : State) : Host.Outcome State Fault Refusal := .next (s.writeNum r K.crcsCmd 1 2)

/-- CAN_CMD RECOVER (R303). -/
def execCanCmdRecover (r : Req) (s : State) : Host.Outcome State Fault Refusal := .next (s.writeNum r K.canCmd 1 1)

/-- STATE_REQUEST PARK (R351, R362). -/
def execStateRequestPark (r : Req) (s : State) : Host.Outcome State Fault Refusal := .next (s.writeNum r K.stateRequest 1 0)

/-- STATE_REQUEST STANDBY (R351). -/
def execStateRequestStandby (r : Req) (s : State) : Host.Outcome State Fault Refusal := .next (s.writeNum r K.stateRequest 1 1)

/-- STATE_REQUEST READY (R351). -/
def execStateRequestReady (r : Req) (s : State) : Host.Outcome State Fault Refusal := .next (s.writeNum r K.stateRequest 1 2)

/-- STATE_REQUEST LIT (R196, R219, R351). -/
def execStateRequestLit (r : Req) (s : State) : Host.Outcome State Fault Refusal := .next (s.writeNum r K.stateRequest 1 3)

/-- STATE_REQUEST SERVICE (R320, R351). -/
def execStateRequestService (r : Req) (s : State) : Host.Outcome State Fault Refusal := .next (s.writeNum r K.stateRequest 1 4)

/-- PERSIST_CMD STORE (R314). -/
def execPersistStore (r : Req) (s : State) : Host.Outcome State Fault Refusal := .next (s.writeNum r K.persistCmd 1 1)

/-- PERSIST_CMD RESTORE_DEFAULTS (R314, R320). -/
def execRestoreDefaults (r : Req) (s : State) : Host.Outcome State Fault Refusal := .next (s.writeNum r K.persistCmd 1 2)

/-- RESET_CMD RESET (R370). -/
def execResetCmd (r : Req) (s : State) : Host.Outcome State Fault Refusal := .next (s.writeNum r K.resetCmd 1 1)

/-- CAP_CMD START (R178, R180). -/
def execCapCmdStart (r : Req) (s : State) : Host.Outcome State Fault Refusal := .next (s.writeNum r K.capCmd 1 1)

/-- INJ_TARGET (R179). -/
def execInjTarget (r : Req) (value : Nat) (s : State) : Host.Outcome State Fault Refusal := .next (s.writeNum r K.injTarget 1 value)

/-- UPDATE_CMD ACTIVATE (R387). -/
def execUpdateActivate (r : Req) (s : State) : Host.Outcome State Fault Refusal := .next (s.writeNum r K.updateCmd 1 1)

/-- UPDATE_CMD ACTIVATE_COLD (R387, R393). -/
def execUpdateActivateCold (r : Req) (s : State) : Host.Outcome State Fault Refusal := .next (s.writeNum r K.updateCmd 1 2)

/-- UPDATE_CMD DISCARD (R387). -/
def execUpdateDiscard (r : Req) (s : State) : Host.Outcome State Fault Refusal := .next (s.writeNum r K.updateCmd 1 3)

/-- EVENT_CLEAR (R337). -/
def execEventClear (r : Req) (value : Nat) (s : State) : Host.Outcome State Fault Refusal := .next (s.writeNum r K.eventClear 1 value)

/-- LOG_CLEAR (R346). -/
def execLogClear (r : Req) (s : State) : Host.Outcome State Fault Refusal := .next (s.writeNum r K.logClear 1 1)

/-- FAULT_ACK (R209, R211, R219). -/
def execFaultAck (r : Req) (s : State) : Host.Outcome State Fault Refusal := .next (s.writeNum r K.faultAck 1 1)

/-- ZONE_FAULT_CLEAR (R207). -/
def execZoneFaultClear (r : Req) (zone : Nat) (s : State) : Host.Outcome State Fault Refusal := .next (s.writeNum r K.zoneFaultClear 2 zone)

/-- COMPAT_ENABLE (R331). -/
def execCompatEnable (r : Req) (value : Nat) (s : State) : Host.Outcome State Fault Refusal := .next (s.writeNum r K.compatEnable 1 value)

/-- PH16K_MODE (R329). -/
def execPh16kMode (r : Req) (value : Nat) (s : State) : Host.Outcome State Fault Refusal := .next (s.writeNum r K.ph16kMode 1 value)

/-- AUX_ENABLE (R405). -/
def execAuxEnable (r : Req) (value : Nat) (s : State) : Host.Outcome State Fault Refusal := .next (s.writeNum r K.auxEnable 1 value)

/-- REFLEX_ENABLE (R117). -/
def execReflexEnable (r : Req) (value : Nat) (s : State) : Host.Outcome State Fault Refusal := .next (s.writeNum r K.reflexEnable 1 value)

/-- GAIN_SOURCE (R171). -/
def execGainSource (r : Req) (value : Nat) (s : State) : Host.Outcome State Fault Refusal := .next (s.writeNum r K.gainSource 1 value)

/-- SENSE_INTERVAL_CYC (R147). -/
def execSenseIntervalCyc (r : Req) (value : Nat) (s : State) : Host.Outcome State Fault Refusal := .next (s.writeNum r K.senseInterval 2 value)

/-- SURF_CMD CLOSE of a surface (R94, R95, R99). -/
def execSurfCmdClose (r : Req) (n : Fin 64) (s : State) : Host.Outcome State Fault Refusal := .next (s.write r (0x2310 + n.val) K.surfCmd (u8 1))

/-- SURF_CMD CLEAR of a surface (R94, R95, R99). -/
def execSurfCmdClear (r : Req) (n : Fin 64) (s : State) : Host.Outcome State Fault Refusal := .next (s.write r (0x2310 + n.val) K.surfCmd (u8 2))

/-- A write of one of a surface's geometry objects (R93, R95, R99). -/
def execSurfGeometryWrite (r : Req) (n : Fin 64) (sub : Nat) (data : List Byte) (s : State) : Host.Outcome State Fault Refusal :=
  .next (s.write r (0x2310 + n.val) sub data)

/-- PH16K_MAP (R327, R329). -/
def execPh16kMap (r : Req) (offset : Nat) (data : List Byte) (s : State) : Host.Outcome State Fault Refusal :=
  .next (s.writeAt r K.ph16kMap offset data)

/-- ZONE_BLANK_MASK (R33). -/
def execZoneBlankMask (r : Req) (offset : Nat) (data : List Byte) (s : State) : Host.Outcome State Fault Refusal :=
  .next (s.writeAt r K.zoneBlankMask offset data)

/-- COMMIT_STAGE (R298): expedited up to 56 bytes, by block above. -/
def execCommitStage (r : Req) (data : List Byte) (s : State) : Host.Outcome State Fault Refusal :=
  .next (if data.length ≤ 56 then s.write r (K.commitStage / 256) (K.commitStage % 256) data else s.writeAt r K.commitStage 0 data)

end Sys2Proof.Machine
end

