-- ==== Sys2Proof/Machine/Packets.lean ====
section
/-! DEFINITION. The commands of Vexlink packets but PARAM_REQ (R247 to R271). -/

namespace Sys2Proof.Machine

open Sys2Proof

/-- What a header decides (R251, R252): what is discarded is counted, and what is forwarded leaves with HOPS one higher. An ENUM is
forwarded with its own command. -/
def State.decideHeader (s : State) (header : List Byte) (ends : PacketEnd) : State :=
  match s.fate header with
  | .headerError => s.onVex fun v => { v with hdrErr := inc32 v.hdrErr 1 }
  | .loop =>
    let s1 := s.onVex fun v => { v with loops := inc32 v.loops 1 }
    if (parseHeader header).hostEnum then s1.raise { ev := 103, data := u8 (parseHeader header).hops } else s1
  | .forward => s.forwardPacket header ends
  | .both => s.forwardPacket header ends
  | .consume => s
  | .enum => s

/-- Credit ordered sets of other modules are forwarded unchanged, at any character position (R253). -/
def State.forwardCredits (s : State) (sets : List (Nat × Nat)) : State :=
  if s.vex.txLane == .l0 then
    s.onVex fun v => { v with
      out := ((sets.filter fun c => decide (some c.1 ≠ v.addr)).map fun c => VxOut.credit c.1 c.2).reverse ++ v.out }
  else s

/-- A character error in a packet that has arrived is counted for its lane (R239). -/
def State.packetError (s : State) (ends : PacketEnd) : State :=
  match ends with
  | .charError lane => s.countCharError lane.val
  | _ => s

/-- PACKET_HEADER (R230, R239, R251 to R253): a header has arrived, of a packet that ends as `ends` says; an earlier one that has not ended
ends in K30.7. With it the credit ordered sets of other modules and the further character errors, by lane, that the stream has carried since
the header before: in fill, in credit ordered sets and in the packet. -/
def execPacketHeader (header : List Byte) (s : State) (ends : PacketEnd := .eop) (credits : List (Nat × Nat) := [])
    (errors : List (Fin 4) := []) : Host.Outcome State Fault Refusal :=
  .next (if s.receiving then
      let s1 := (s.onVex Vex.endOpen).forwardCredits credits
      ((errors.foldl (fun s l => s.countCharError l.val) s1).packetError ends).decideHeader header ends
    else s)

/-- COMMIT (R255, R256). -/
def execCommit (p : VxPacket) (s : State) : Host.Outcome State Fault Refusal :=
  .next (s.consume p (· == 0x11) fun s h u => s.commitPacket h u p.payload)

/-- SURF_WRITE (R258). -/
def execSurfWrite (p : VxPacket) (s : State) : Host.Outcome State Fault Refusal :=
  .next (s.consume p (· == 0x01) fun s h u => s.surfWrite h u p.payload)

/-- SURF_READ (R259). -/
def execSurfRead (p : VxPacket) (s : State) : Host.Outcome State Fault Refusal :=
  .next (s.consume p (· == 0x02) fun s h u => s.surfReadPacket h u p.payload)

/-- BEAM_LINE (R257). -/
def execBeamLine (p : VxPacket) (s : State) : Host.Outcome State Fault Refusal :=
  .next (s.consume p (· == 0x10) fun s h u => s.beamLine h u p.payload)

/-- ENUM (R265, R266). -/
def execEnum (p : VxPacket) (s : State) (ends : PacketEnd := .eop) : Host.Outcome State Fault Refusal := .next (s.enumPacket p ends)

/-- HOST_NAK (R270). -/
def execHostNak (p : VxPacket) (s : State) : Host.Outcome State Fault Refusal :=
  .next (s.consume p (· == 0x41) fun s _ _ => s.hostNak p.payload)

/-- UNKNOWN_TYPE_PACKET (R255): a type not in Table 12-4, or one that only modules send. -/
def execUnknownTypePacket (p : VxPacket) (s : State) : Host.Outcome State Fault Refusal :=
  .next (s.consume p (fun t => !creditedType t && t != 0x40 && t != 0x41) fun s h _ =>
    (s.onVex fun v => { v with unknown := inc32 v.unknown 1 }).nak h.bro h.seq h.type 8 0)

/-- The next packet of the output (R253): an own packet that has waited 20 us when the forward buffer is empty, else a forwarded one whose
header is waiting, else the oldest own packet. None of its own leaves while the forward buffer holds data. -/
def State.nextPacket (s : State) (waited forwardWaiting holds : Bool) : State :=
  let own := if holds || !s.outputWaits then none else s.vex.addr
  match own, s.vex.fwd with
  | some a, f :: rest => if waited then s.sendNext a else s.onVex fun v => { v with fwd := rest }.startForward f
  | some a, [] => if waited || !forwardWaiting then s.sendNext a else s
  | none, f :: rest => s.onVex fun v => { v with fwd := rest }.startForward f
  | none, [] => s

/-- OUTPUT_PACKET_BOUNDARY (R253): the packet on the output has ended, and the next one is chosen, with `buffered` bytes held in the forward
buffer, whose peak is kept for VX_PKT_STATUS. `forwardWaiting`: a header to be forwarded is arriving. -/
def execOutputPacketBoundary (waited20us forwardWaiting : Bool) (s : State) (buffered : Nat := 0) : Host.Outcome State Fault Refusal :=
  let s1 := if s.pwr.link then s.onVex fun v => { v with forwardPeak := max v.forwardPeak buffered } else s
  .next (if s1.pwr.link && s1.vex.txLane == .l0 && !s1.vex.fwdOpen then
      (s1.onVex fun v => { v with sending := .nothing }).nextPacket waited20us forwardWaiting
        (buffered != 0 || s1.vex.fwd.any Forwarding.buffered)
    else s1)

/-- CREDIT_SET_TIMER (R267): a credit ordered set with CR_TOTAL leaves. -/
def execCreditSetTimer (s : State) : Host.Outcome State Fault Refusal :=
  .next (match s.vex.addr with
    | some a => if s.pwr.link && s.vex.txLane == .l0 then
        s.onVex fun v => { v with out := .credit a v.crTotal :: v.out } else s
    | none => s)

/-- STATUS_PERIOD (R263). -/
def execStatusPeriod (s : State) : Host.Outcome State Fault Refusal :=
  .next (if s.up && s.par K.statusPeriod != 0 then s.queueStatus else s)

end Sys2Proof.Machine
end

