-- ==== Sys2Proof/Machine/SvcOps.lean ====
section
/-! DEFINITION. The SVC port (R378 to R380), image headers and authenticity (R381, R382), and staging (R384, R385). -/

namespace Sys2Proof.Machine

open Sys2Proof

/-! ### Frames (R378 to R380, Table 20-1) -/

/-- The FCRC that the module forms of a frame. -/
def SvcFrame.value (f : SvcFrame) : Nat := crc32c (f.body.take (6 + SvcFrame.len f))

/-- Whether FCRC holds. -/
def SvcFrame.passes (f : SvcFrame) : Bool := SvcFrame.value f == f.fcrc

/-- Whether a frame is a request to this module (R379). -/
def State.svcMine (s : State) (f : SvcFrame) : Bool :=
  let addr := field f.body 0 1
  (addr == 0xFF || addr == s.can.addr) && !bitOf (field f.body 1 1) 7

/-- A CODE is answered to a frame whose FCRC failed; it is not the last frame processed (R380). -/
def State.svcCrc (s : State) (f : SvcFrame) (code : Nat) : State :=
  let b := svcFrame s.can.addr (SvcFrame.type f) (SvcFrame.seq f) (u8 code ++ [0, 0, 0])
  s.onCan fun c => { c with svcResp := b :: c.svcResp }

/-- The pending second look of a frame, with the value of its first look (R380). -/
def State.svcLook (s : State) (f : SvcFrame) : Option Nat :=
  (s.rally.svcLooks.find? fun e => e.1 == SvcFrame.seq f && e.2.1 == SvcFrame.type f).map fun e => e.2.2

/-- A pending second look of a frame has been judged. -/
def Rally.dropLook (r : Rally) (f : SvcFrame) : Rally :=
  { r with svcLooks := r.svcLooks.filter fun e => !(e.1 == SvcFrame.seq f && e.2.1 == SvcFrame.type f) }

/-- The first look or the second look of a failed FCRC (R380). -/
def State.svcFailed (s : State) (f : SvcFrame) : State :=
  let s1 := s.onRally fun r => r.dropLook f
  if SvcFrame.retry f && (s.svcLook f).isSome then s1.svcCrc f 2
  else
    (s1.onRally fun r => { r with svcLooks := r.svcLooks ++ [(SvcFrame.seq f, SvcFrame.type f, SvcFrame.value f)] }).svcCrc f 1

/-- A frame that passes the second look of a failed FCRC is TRANSIENT; no row of Table 10-1 is its check (R197, R341, R380). -/
def State.svcLooked (s : State) (f : SvcFrame) : State :=
  match SvcFrame.retry f, s.svcLook f with
  | true, some first => (s.onRally fun r => r.dropLook f).transientRecord 0xFFFF (u32 first ++ u32 (SvcFrame.value f))
  | _, _ => s

/-- Whether a frame repeats the last one processed (R380). -/
def State.svcRepeated (s : State) (f : SvcFrame) : Bool := SvcFrame.retry f && (s.rally.svcLast.map Prod.fst) == some (SvcFrame.seq f)

/-- A repeated frame is answered again and not executed again; one whose answer is still to come waits for that (R380). -/
def State.svcAgain (s : State) : State :=
  match s.rally.svcLast with
  | some (_, some b) => s.onCan fun c => { c with svcResp := b :: c.svcResp }
  | _ => s

/-- The request of the SVC frame being processed waits for room in a write queue, and is answered later (R99, R291). -/
def State.svcWaits (s : State) : Bool :=
  s.surf.waiting.any fun w => match w.who with
    | .request m => m.req.via == .svc && m.req.cls == s.rally.svcSeq
    | .block => match s.can.transfer with
      | some t => t.req.via == .svc && t.req.cls == s.rally.svcSeq
      | none => false
    | .packet _ => false

/-- A frame to which Grenz gives no answer, as a BLOCK_SEG, a BLOCK_ACK and an ABORT, is answered OK without data (R379, log 20). -/
def State.svcAnswered (s : State) (type : Nat) : State :=
  if (s.rally.svcLast.map Prod.snd) == some none && !s.svcWaits then s.sendSvc type 0 [] else s

/-! ### The end of a transfer (R384) -/

/-- The transfer open ends and the slot is erased; what was staged before is lost. -/
def State.endStaging (s : State) : State :=
  if s.rally.transfer then
    s.eraseStaged.onRally fun r => { r with transfer := false, chunk := 0, part := 0, chunkData := [], chunkLook := none, newChunks := [], newStored := [] }
  else s

/-- A frame that Tables 20-2 and 20-3 leave without a CODE: a TYPE that they do not list, or a GRENZ payload that is no Grenz frame. It is
answered with a free CODE, which ends a transfer that is open unless it is OK, CRC or CRC_LASTING (R379, R384, log 20). -/
def State.svcUnstated (s : State) (type : Nat) : State :=
  let (d, s1) := s.drawUnstated 1
  (if field d 0 1 ≤ 2 then s1 else s1.endStaging).sendSvc type (field d 0 1) []

/-- A frame of staging is answered OK. -/
def State.imgOk (s : State) (type : Nat) : State := s.sendSvc type 0 []

/-- A frame of staging is refused: a transfer open ends with it. -/
def State.imgRefuse (s : State) (type code : Nat) : State := s.endStaging.sendSvc type code []

/-! ### The header (R381 to R383, Table 20-4) -/

/-- Whether MAGIC, FORMAT, HDR_LEN, the lengths and HW_MIN hold in a header with its tag table; ROLLBACK lies from 0 to 255. -/
def headerOk (b : List Byte) : Bool :=
  let n := field b 16 4
  let chunks := field b 20 2
  field b 0 4 == 0x594C4152 && field b 4 2 == 1 && field b 6 2 == 256 && decide (1 ≤ n) && decide (n ≤ 983040) &&
    chunks == (n + 65535) / 65536 && b.length == 256 + 16 * chunks && decide (field b 28 2 ≤ Config.hwRev) && decide (field b 12 4 < 256)

/-- Whether SIGNATURE holds over header bytes 0 to 191 and the tag table, under a key that exists and is not revoked (R382). -/
def signatureOk (b : List Byte) : Bool :=
  let k := field b 44 1
  let (x, y, revoked) := Config.signingKey k
  decide (k < 4) && !revoked &&
    ecdsaHolds (x, y) (sha256 (b.take 192 ++ b.drop 256)) (beValue ((b.drop 192).take 32)) (beValue ((b.drop 224).take 32))

/-- The code that answers IMG_BEGIN's payload, 0 where every check passes (R384). -/
def State.beginCode (s : State) (b : List Byte) : Nat :=
  if !headerOk b then 6 else if field b 12 4 < s.flash.rollback then 8 else if !signatureOk b then 7 else 0

/-- The tag table as entries of 16 bytes. -/
def tagTable (b : List Byte) : List (List Byte) := (upTo ((b.length - 256) / 16)).map fun i => (b.drop (256 + 16 * i)).take 16

/-- The staging rules that come before any other (R384): SERVICE on SVC, and RALLY_STATE IDLE or STAGED; 0 where both hold. -/
def State.stagingCode (s : State) : Nat :=
  if s.mgmt.svc.level ≠ .service then 3
  else if s.rally.phase = .idle ∨ s.rally.phase = .staged then 0 else 4

/-- A transfer opens: an image staged already is discarded, with its pending activation. -/
def State.openStaging (s : State) (b : List Byte) : State :=
  s.eraseStaged.onRally fun r => { r with
    transfer := true, coldPending := false, chunk := 0, part := 0, chunkData := [], chunkLook := none
    newHeader := b.take 256, newTags := tagTable b, newChunks := [], newStored := [] }

/-- IMG_BEGIN. -/
def State.imgBegin (s : State) (b : List Byte) : State :=
  if s.stagingCode ≠ 0 then s.imgRefuse 0x10 s.stagingCode
  else
    let code := s.beginCode b
    if code ≠ 0 then s.imgRefuse 0x10 code else (s.openStaging b).imgOk 0x10

/-! ### Chunks (R381, R382, R384) -/

/-- The code that any further frame of staging meets first: as for IMG_BEGIN, then STATE with no transfer open. -/
def State.transferCode (s : State) : Nat := if s.stagingCode ≠ 0 then s.stagingCode else if s.rally.transfer then 0 else 4

/-- Bytes of chunk `c` of an image of `n` bytes. -/
def chunkSize (n c : Nat) : Nat := min 65536 (n - 65536 * c)

/-- The nonce of chunk `i` (R382). -/
def chunkNonce (header : List Byte) (i : Nat) : List Byte :=
  (header.drop 32).take 8 ++ List.zipWith (· ^^^ ·) ((header.drop 40).take 4) (u32 i)

/-- The additional authenticated data of chunk `i` (R382). -/
def chunkAad (header : List Byte) (i : Nat) : List Byte := (header.drop 8).take 8 ++ u32 i

/-- K_TRANSIT. -/
def keyTransit : List Byte := (upTo 32).map Config.keyTransit

/-- The plaintext of a chunk and the tag formed of it, which is to be the one that the tag table holds (R382). -/
def openChunk (header : List Byte) (i : Nat) (data : List Byte) : List Byte × List Byte :=
  gcmOpen keyTransit (chunkNonce header i) (chunkAad header i) data

/-- STORE_GEN of the image being staged (R386). -/
def State.newGen (s : State) : Nat := inc32 (s.slotOfBank (!s.rally.bankB)).storeGen 1

/-- An authentic chunk is stored under K_DEV with its storage tag, and the next begins; a second look that passes is TRANSIENT, with the tags
formed at its two looks (R341). A write that fails ends the transfer with FLASH (R379, R384, R386). -/
def State.storeChunk (s : State) (plain authTag : List Byte) (written : Bool) : State :=
  let s1 := match s.rally.chunkLook with
    | some first => s.transientRecord 0xFFFF (first ++ authTag)
    | none => s
  let (text, tag) := gcmSeal keyDev (storeNonce (!s.rally.bankB) s.newGen s.rally.chunk) [] plain
  if written then
    (s1.onRally fun r => { r with
      chunk := r.chunk + 1, part := 0, chunkData := [], chunkLook := none
      newChunks := r.newChunks ++ [text], newStored := r.newStored ++ [tag] }).imgOk 0x11
  else s1.imgRefuse 0x11 10

/-- CHUNK_AUTH, with the tag that was formed: the whole chunk is expected again from part 0, and the second failure is LASTING with EV116. -/
def State.rejectChunk (s : State) (authTag : List Byte) : State :=
  if s.rally.chunkLook.isSome then
    (s.raise { ev := 116, data := u8 (b2n !s.rally.bankB) ++ u16 s.rally.chunk, lasting := true }).imgRefuse 0x11 9
  else (s.onRally fun r => { r with part := 0, chunkData := [], chunkLook := some authTag }).sendSvc 0x11 9 []

/-- A part in its place and of its size is taken; with the last part of a chunk the chunk is authenticated. -/
def State.takePart (s : State) (data : List Byte) (written : Bool) : State :=
  let r := s.rally
  let all := r.chunkData ++ data
  if all.length < chunkSize (field r.newHeader 16 4) r.chunk then
    (s.onRally fun r => { r with part := r.part + 1, chunkData := all }).imgOk 0x11
  else
    let (plain, tag) := openChunk r.newHeader r.chunk all
    if tag = r.newTags.getD r.chunk [] then s.storeChunk plain tag written else s.rejectChunk tag

/-- Whether a part is the one expected (R384): CHUNK, PART, and the size that its place gives it. -/
def Rally.partFits (r : Rally) (b : List Byte) : Bool :=
  let left := chunkSize (field r.newHeader 16 4) r.chunk - r.chunkData.length
  field b 0 2 == r.chunk && field b 2 1 == r.part && decide (r.chunk < r.newTags.length) && b.length == 4 + min 1024 left

/-- IMG_DATA. -/
def State.imgData (s : State) (b : List Byte) (written : Bool) : State :=
  if s.transferCode ≠ 0 then s.imgRefuse 0x11 s.transferCode
  else if !s.rally.partFits b then s.imgRefuse 0x11 5
  else s.takePart (b.drop 4) written

/-! ### IMG_END, IMG_ABORT (R384, R386) -/

/-- Writes of one copy of a record, of which the first `fails` fail their check; a third is not tried (R281). -/
def State.writeTries (s : State) (r : RecordId) (c : CopyId) (fails : Nat) : State :=
  let s1 := (upTo fails).foldl (fun s _ => s.writeCopy r c false) s
  if fails < 2 then s1.writeCopy r c true else s1

/-- The slot record is formed and written: copy A and its verification, then copy B (R281, R384, R386). -/
def State.writeSlot (s : State) (fails : CopyFails) : State :=
  let r := s.rally
  let id := if r.bankB then RecordId.slotA else .slotB
  let s1 := (s.onSlot (!r.bankB) fun y =>
    { state := .staged, header := r.newHeader, tags := r.newTags, chunks := r.newChunks, storeTags := r.newStored
      storeGen := s.newGen, copies := y.copies }).writeDue (recordCode id)
  (s1.writeTries id .a fails.a.val).writeTries id .b fails.b.val

/-- The image is staged. -/
def State.stageSlot (s : State) (fails : CopyFails) : State :=
  (s.writeSlot fails).onRally fun r => { r with transfer := false, phase := .staged }

/-- IMG_END: accepted after the last chunk. A slot record of which a copy could not be written and verified is answered FLASH, and the slot is
erased (R281, R379, R384). -/
def State.imgEnd (s : State) (written : Bool) (fails : CopyFails) : State :=
  if s.transferCode ≠ 0 then s.imgRefuse 0x12 s.transferCode
  else if s.rally.newChunks.length < s.rally.newTags.length then s.imgRefuse 0x12 5
  else if written && fails.a != 2 && fails.b != 2 then (s.stageSlot fails).imgOk 0x12
  else (s.writeSlot (if written then fails else { fails with a := 2 })).imgRefuse 0x12 10

/-- IMG_ABORT. -/
def State.imgAbort (s : State) : State :=
  if s.transferCode ≠ 0 then s.imgRefuse 0x1F s.transferCode else s.endStaging.imgOk 0x1F

/-! ### Taking a frame (R378 to R380) -/

/-- A frame is carried out by its TYPE (Table 20-2) and answered. `written` and `fails`: what could be written to flash, and
the failed writes of a record's copies. -/
def State.svcServe (s : State) (type : Nat) (b : List Byte) (written : Bool) (fails : CopyFails) : State :=
  if type = 0x01 then (if b.length < 8 then s.svcUnstated type else (s.grenzFrameIn .svc b 0 false).svcAnswered type)
  else if type = 0x10 then s.imgBegin b
  else if type = 0x11 then s.imgData b written
  else if type = 0x12 then s.imgEnd written fails
  else if type = 0x1F then s.imgAbort
  else s.svcUnstated type

/-- A whole frame: ignored where it is not for this module, its FCRC judged, a repeat answered again, and else carried out (R379, R380). -/
def State.svcWhole (s : State) (f : SvcFrame) (written : Bool) (fails : CopyFails) : State :=
  if !s.svcMine f then s
  else if !SvcFrame.passes f then s.svcFailed f
  else
    let s1 := s.svcLooked f
    if s1.svcRepeated f then s1.svcAgain
    else
      (s1.onRally fun r => { r with svcSeq := SvcFrame.seq f, svcLast := some (SvcFrame.seq f, none) }).svcServe
        (SvcFrame.type f) (SvcFrame.payload f) written fails

/-- The bytes from the first START on; a last 0xA5 may begin one (R378). -/
def svcSync : List Byte → List Byte
  | a :: b :: t => if a = 0xA5 ∧ b = 0xC3 then a :: b :: t else svcSync (b :: t)
  | [a] => if a = 0xA5 then [a] else []
  | [] => []

/-- The frame that bytes from a START begin with, and what follows it; none while it has not come whole. -/
def svcCut (b : List Byte) : Option (SvcFrame × List Byte) :=
  let n := 8 + field b 6 2
  if b.length < 8 ∨ b.length < n + 4 then none
  else some (⟨(b.take n).drop 2, field b n 4, b.take 2⟩, b.drop (n + 4))

/-- Bytes as they come: each whole frame is taken, a LEN above 1,032 is no frame's, and a partial frame waits (R378). -/
def State.svcStream : Nat → State → List Byte → Bool → CopyFails → State
  | 0, s, b, _, _ => s.onRally fun r => { r with svcBuf := b }
  | n + 1, s, b, written, fails =>
    let c := svcSync b
    if 8 ≤ c.length ∧ 1032 < field c 6 2 then State.svcStream n s (c.drop 2) written fails
    else match svcCut c with
      | none => s.onRally fun r => { r with svcBuf := c }
      | some (f, rest) => State.svcStream n (s.svcWhole f written fails) rest written fails

/-- Whether a frame comes whole, with its START and no byte too few or too many. -/
def SvcFrame.whole (f : SvcFrame) : Bool :=
  f.start == [0xA5, 0xC3] && decide (6 ≤ f.body.length) && f.body.length == 6 + SvcFrame.len f && decide (SvcFrame.len f ≤ 1032)

/-- The bytes of a frame on the line; one that ends early has no FCRC. -/
def SvcFrame.bytes (f : SvcFrame) : List Byte := f.start ++ f.body ++ if SvcFrame.short f then [] else u32 f.fcrc

/-- A frame arrives (R378): a whole one after whole ones is taken as it stands, and else its bytes follow those of the partial frame before
it. -/
def State.svcTake (s : State) (f : SvcFrame) (written : Bool) (fails : CopyFails) : State :=
  if !s.up then s
  else if s.rally.svcBuf.isEmpty && SvcFrame.whole f then s.svcWhole f written fails
  else
    let b := s.rally.svcBuf ++ SvcFrame.bytes f
    (s.onRally fun r => { r with svcBuf := [] }).svcStream b.length b written fails

end Sys2Proof.Machine
end

