-- ==== Sys2Proof/Machine/RallyOps.lean ====
section
/-! DEFINITION. Activation, hand-over, rejection, probation and cold activation (R387 to R393). -/

namespace Sys2Proof.Machine

open Sys2Proof

/-! ### The load of the new bank (R387) -/

/-- The record of a check of the new bank that passed its second look (R341, R387): of chunk `c`'s storage tag, what the first look formed, which
is not known, and the tag as stored; of the slot record, its seal in the same way. -/
def State.loadReread (s : State) (chunk : Option (Fin 15)) : State :=
  let y := s.slotOfBank (!s.rally.bankB)
  let now := match chunk with
    | some c => y.storeTags.getD c.val []
    | none => u32 (((y.copies.value).map Sealed.check).getD 0)
  let (d, s1) := s.drawUnstated now.length
  s1.transient chkStored (d ++ now)

/-- The new bank has been loaded and checked. Checks that passed their second look are TRANSIENT; a failure is LASTING once its reread has
failed: the slot is REJECTED with EV116, which names the chunk of a storage tag. -/
def State.bankLoaded (s : State) (load : BankLoad) : State :=
  if !s.rally.loading then s
  else match load with
    | .passed l => l.foldl State.loadReread ((s.fillBank (!s.rally.bankB)).onRally fun r => { r with loading := false, loaded := true })
    | .failed chunk =>
      let b := !s.rally.bankB
      let item := match chunk with
        | some c => c.val
        | none => 0xFFFF
      let s1 := s.raise { ev := 116, data := u8 (b2n b) ++ u16 item, lasting := true }
      ((s1.onSlot b fun y => { y with state := .rejected }).writeDue (12 + b2n b)).onRally fun r => { r with
        loading := false, phase := .idle, outcome := 2, reason := 8, outcomeAt := s.now, outcomeCold := false }

/-! ### The hand-over (R388, R389) -/

/-- HREC_WRITE of the image in a slot (Table 20-4). The factory's slot record stands as the empty string. -/
def Slot.hrecWrite (y : Slot) : Nat := if y.header.isEmpty then Config.fwHrecWrite else field y.header 22 2

/-- A section of the hand-over record (R390, Table 20-7): TYPE, FLAGS, LEN, and data padded to a multiple of 4. All types but 7 are CRITICAL. The
data is free: the spec gives it no layout, and what it carries stays in State (log 19). -/
def handSection (draw type : Nat) : List Byte :=
  let data := (Config.handSection draw type).take 9000
  u16 type ++ u16 (b2n (type != 7)) ++ u32 data.length ++ pad4 data

/-- The seven sections of the record. -/
def handSections (draw : Nat) : List Byte := ((List.range 7).map fun t => handSection draw (t + 1)).flatten

/-- The header of the hand-over record that the running image seals (Table 20-6), before sections of `len` bytes. -/
def State.handHeader (s : State) (len : Nat) : List Byte :=
  let old := s.slotOfBank s.rally.bankB
  u32 0x52454448 ++ u16 old.hrecWrite ++ u16 7 ++ u32 (32 + len + 4) ++ u32 old.version ++ u32 (s.slotOfBank (!s.rally.bankB)).version ++
    u64 s.now ++ u32 s.flash.bootCount

/-- The hand-over record: header, sections and seal (R390). -/
def State.handRecord (s : State) : List Byte :=
  let body := handSections s.free
  sealed (s.handHeader body.length ++ body)

/-- The record in the top 64 KiB of a bank. -/
def Rally.recordOf (r : Rally) (b : Bool) : List Byte := if b then r.topB else r.topA

/-- Values of listed objects, of those that are not at their default. -/
def pickKeys {α : Type} (l : List (Nat × α)) (keys : List Nat) : List (Nat × α) := l.filter fun e => keys.contains e.1

/-- What the sections of a hand-over record sealed now carry (Table 20-7). A commit of PERSIST that runs is flash work queued: what it was
started for is dirty in the record (log 19). -/
def State.carriedNow (s : State) : Carried :=
  let dirty := if s.dict.committing then (s.dict.commitKeys.getD []).foldl setAdd s.dict.dirty else s.dict.dirty
  { mismatches := s.mgmt.mismatches, lockUntil := s.mgmt.lockUntil
    hostPresent := s.flt.hostPresent, beat := s.flt.beat, packet := s.flt.packet, upLost := s.flt.upLost
    hostLostRaised := s.flt.hostLostRaised, fbCauses := s.flt.fbCauses, renderHeld := s.flt.renderHeld
    addr := s.vex.addr, epoch := s.vex.epoch, seq := s.vex.seq, dupUni := s.vex.dupUni, dupBro := s.vex.dupBro, answers := s.vex.answers
    copies := s.vex.copies
    answered := s.can.answered, stage := s.can.stage, stageCommit := s.can.stageCommit
    gen := s.dict.gen, dirty := dirty, dirtySince := s.dict.dirtySince, vals := pickKeys s.dict.vals dirty, doms := pickKeys s.dict.doms dirty
    due := setDel s.flash.due 0, fbNew := s.flash.fbNew
    looks := s.flt.looks, stored := s.chk.looks, surfLooks := s.surf.surf.map fun u => (u.looks, u.scrubLook), svcLooks := s.rally.svcLooks }

/-- The record is written into the top 64 KiB of the old bank and sealed (R389, R390). -/
def State.sealRecord (s : State) : State :=
  { s with free := s.free + 1 }.onRally fun r =>
    let q := { r with carried := some s.carriedNow }
    if r.bankB then { q with topB := s.handRecord } else { q with topA := s.handRecord }

/-- Whether HREC_VERSION of a record lies in the READ range of the image in a slot. The factory's image reads what it writes (log 19). -/
def Slot.readsVersion (y : Slot) (h : List Byte) : Bool :=
  if y.header.isEmpty then field h 4 2 == Config.fwHrecWrite % 65536
  else decide (field y.header 24 2 ≤ field h 4 2) && decide (field h 4 2 ≤ field y.header 26 2)

/-- Whether the image in a slot accepts the header of a record: MAGIC, TO_VERSION against its own VERSION, and HREC_VERSION in its READ range
(R391). -/
def Slot.readsRecord (y : Slot) (h : List Byte) : Bool :=
  field h 0 4 == 0x52454448 && field h 16 4 == y.version % 2 ^ 32 && y.readsVersion h

/-- Whether the seal of a record holds: TOTAL is its length, and its last 4 bytes are the CRC-32C of those before (R390). -/
def recordSealHolds (b : List Byte) : Bool := b.length == field b 8 4 && sealHolds b

/-- The sections of a record as TYPE and CRITICAL, of `n` sections in the bytes between header and seal; none where they do not fill these
bytes (R390). -/
def readSections : Nat → List Byte → Option (List (Nat × Bool))
  | 0, b => if b.isEmpty then some [] else none
  | n + 1, b =>
    let size := 8 + (field b 4 4 + 3) / 4 * 4
    if b.length < 8 ∨ b.length < size then none
    else (readSections n (b.drop size)).map fun l => (field b 0 2, bitOf (field b 2 2) 0) :: l

/-- Whether an image understands a section that is CRITICAL: the types of Table 20-7. -/
def understands (e : Nat × Bool) : Bool := !e.2 || (decide (1 ≤ e.1) && decide (e.1 ≤ 7))

/-- What a record's own content decides (R391): the seal, its sections, and that each CRITICAL one is understood. -/
def judgeContent (b : List Byte) : HandoverVerdict :=
  if !recordSealHolds b then .seal
  else match readSections (field b 6 2) ((b.take (b.length - 4)).drop 32) with
    | none => .content
    | some l => if l.all understands then .accepted else .criticalSection

/-- How the new image judges the record of the old bank: by its header, then by its content, in the order of R391. -/
def State.recordVerdict (s : State) : HandoverVerdict :=
  let b := s.rally.recordOf s.rally.bankB
  if (s.slotOfBank (!s.rally.bankB)).readsRecord b then judgeContent b else .version

/-- The quiesce: RALLY_STATE reads HANDOVER, a block transfer is ended BUSY, the record is sealed, and the watchdog window is held open (R334,
R388 to R390). A cold activation pending ends with it, as a reset in the hand-over boots the slot selected (R393). -/
def State.quiesce (s : State) : State :=
  if !s.rally.loaded ∨ s.rally.phase ≠ .staged then s
  else
    let s1 := s.abortTransfer 7
    let s2 := s1.onRally fun r => { r with
      phase := .handover, loaded := false, coldPending := false, quiesced := s.now, hbHeld := some (s.pwr.dev.num, s.flt.health)
      fromVersion := (s.slotOfBank r.bankB).version, toVersion := (s.slotOfBank (!r.bankB)).version }
    s2.sealRecord.onMgmt fun m => { m with wdHeld := true }

/-- The watchdog after the first service by an image that resumes (R334). -/
def State.freeWatchdog (s : State) : State := s.onMgmt fun m => { m with wdHeld := false, wdLast := some s.now }

/-- What was held during the hand-over is served (R388): fallback causes, a render trigger, and the remaining steps of an ENUM. -/
def State.serveHeld (s : State) : State :=
  let r := s.rally
  let s1 := s.onRally fun r => { r with heldFallback := [], enumLatched := none, hbHeld := none }
  let s2 := r.heldFallback.foldl (fun s c =>
    if s.pwr.dev == .safeDark then (if c = .limpN then s.limpAttempt else if c = .thermal then s.tryThermalExit else s) else s.engage c) s1
  let s3 := if s2.flt.renderHeld && s2.pwr.dev == .fallback && !s2.flt.renderOn then s2.startRender else s2
  match r.enumLatched with
  | some (hops, epoch, nonce) => s3.enumerate hops epoch nonce
  | none => s3

/-- The new image resumes in PROBATION (R389, R392, R393). -/
def State.enterProbation (s : State) : State :=
  (s.freeWatchdog.onRally fun r => { r with phase := .probation, bankB := !r.bankB }).serveHeld

/-- A hand-over runs that nothing has refused yet. -/
def State.handingOver (s : State) : Bool := s.rally.phase == .handover && !s.pwr.held.contains .rallyRevert

/-- The record whose seal held on its reread only is TRANSIENT, with the value of the first look, which is not known, and the seal (R341,
R391). -/
def State.recordReread (s : State) (b : List Byte) : State :=
  let (d, s1) := s.drawUnstated 4
  s1.transient chkStored (d ++ u32 (field b (b.length - 4) 4))

/-- The new image accepts the record and resumes, or refuses it and triggers the revert (R391, R392). A record that its bytes refuse is refused;
one that they do not is accepted, unless the verdict says that the image refuses it as it reads it. -/
def State.judgeRecord (s : State) (v : HandoverVerdict) : State :=
  let w := if v = .accepted ∨ v = .reread then s.recordVerdict else v
  if !s.handingOver || s.rally.coldRun then s
  else if w = .accepted then
    let s1 := (s.onRally fun r => { r with handovers := inc32 r.handovers 1, gap := s.now - r.quiesced }).enterProbation
    if v = .reread then s1.recordReread (s.rally.recordOf s.rally.bankB) else s1
  else s.beginRevert (verdictReason w)

/-- Whether an image reads a record back as it starts: PERSIST, CROSS_LIST and the keys. -/
def RecordId.isReloaded (r : RecordId) : Bool :=
  match r with
  | .persist => true
  | .crossList => true
  | .keys => true
  | _ => false

/-- The values that an image reads back from flash as it starts: PERSIST, the keys and CROSS_LIST (R392, R393), with the copies that passed
their second look only (R280, R281). -/
def State.reloadRecords (s : State) (reread : List (RecordId × CopyId)) : State :=
  (s.rereadCopies RecordId.isReloaded reread).loadPersist.loadKeys.loadCross

/-- The new image resumes after a cold activation, from flash records and hardware state (R393). -/
def State.coldResume (s : State) (reread : List (RecordId × CopyId)) : State :=
  if s.handingOver && s.rally.coldRun then (s.reloadRecords reread).enterProbation.judgeStormsSince s.flt.counts else s

/-! ### Revert (R392) -/

/-- After a crash in probation the old bank runs again, and the staged slot is REJECTED, and is not activated again. -/
def State.rejectStaged (s : State) : State :=
  let b := s.rally.bankB
  ((s.onSlot b fun y => { y with state := .rejected }).writeDue (12 + b2n b)).onRally fun r => { r with
    bankB := !b, outcome := 3, outcomeAt := s.now, outcomeCold := r.coldRun, coldRun := false, coldPending := false }

/-- After a refusal the image stays STAGED, with COLD_PENDING set. -/
def State.keepStaged (s : State) : State :=
  s.onRally fun r => { r with outcome := 2, outcomeAt := s.now, outcomeCold := r.coldRun, coldRun := false, coldPending := true }

/-- Whether the old bank's image accepts its own record, against its own VERSION (R391, R392). -/
def State.ownRecordHolds (s : State) (b : Bool) : Bool :=
  let y := s.slotOfBank b
  let h := s.rally.recordOf b
  field h 0 4 == 0x52454448 && field h 12 4 == y.version % 2 ^ 32 && y.readsVersion h && decide (judgeContent h = .accepted)

/-- A surface's pending second looks as sealed; one that a write since has made lapse stays so (R198). -/
def Surface.restoreLooks (u : Surface) (c : List (Nat × Option Nat) × Option Nat) : Surface :=
  { u with looks := c.1.filter u.looks.contains, scrubLook := if u.scrubLook.isSome then c.2 else none }

/-- What a record carries is in force again (Table 20-7, R392), over the values read back from PERSIST: the dirty set and its values stand
where PERSIST has not been committed since the sealing, and defaults that were to be written still are (log 19). -/
def State.restoreCarried (s : State) (c : Carried) : State :=
  let same := s.dict.gen == c.gen
  let v := if same then c.dirty.foldl (overlayKey (c.vals, c.doms)) (s.dict.vals, s.dict.doms) else (s.dict.vals, s.dict.doms)
  { s with
    mgmt := { s.mgmt with mismatches := c.mismatches, lockUntil := c.lockUntil }
    flt := { s.flt with
      hostPresent := c.hostPresent, beat := c.beat, packet := c.packet, upLost := c.upLost, hostLostRaised := c.hostLostRaised
      fbCauses := s.startCauses c.fbCauses, renderHeld := c.renderHeld, looks := c.looks }
    vex := { s.vex with
      addr := c.addr, epoch := c.epoch, seq := c.seq, dupUni := c.dupUni, dupBro := c.dupBro, answers := c.answers, copies := c.copies }
    can := { s.can with answered := c.answered, stage := c.stage, stageCommit := c.stageCommit }
    dict := { s.dict with
      vals := v.1, doms := v.2, dirty := if same then c.dirty else [], dirtySince := if same then c.dirtySince else none
      restoring := s.dict.restoring || s.dict.committing && s.dict.commitKeys.isNone
      committing := false, commitAgain := false, storeDue := false, commitKeys := none }
    flash := { s.flash with due := c.due, aDone := [], failedOnce := [], fbNew := c.fbNew }
    chk := { s.chk with looks := c.stored }
    surf := { s.surf with surf := s.surf.surf.mapIdx fun n u => u.restoreLooks (c.surfLooks.getD n ([], none)) }
    rally := { s.rally with svcLooks := c.svcLooks } }

/-- The transition that was in progress goes on: what its step writes to flash is written anew. -/
def State.resumeStep (s : State) : State := if s.nextIsPark then s.requestCommit else s

/-- Whether the old bank starts from flash records as it resumes: without a record of this activation, as after a cold one, or with one that it
does not accept (R392, R393, log 19). -/
def State.startsAnew (s : State) (b : Bool) : Bool := s.rally.coldRun || !s.ownRecordHolds b || s.rally.carried.isNone

/-- The old bank resumes: from its own record, and after a crash in probation what the record carries is in force again and the flash records
committed since are read back (R392); or else from flash records. -/
def State.resumeOld (s : State) (crashed : Bool) (b : Bool) (reread : List (RecordId × CopyId)) : State :=
  if s.startsAnew b then (s.dropCarried.reloadRecords reread).resumeStep
  else match crashed, s.rally.carried with
    | true, some c => ((s.reloadRecords reread).restoreCarried c).resumeStep
    | _, _ => s

/-- EV120 of a RALLY_REVERT reset, as STANDBY is first reached: at once where the module was in it (R338). -/
def State.reportRevert (s : State) (there : Bool) : State :=
  if there then s.raiseBootReport else s.onMgmt fun m => { m with reportDue := true }

/-- The RALLY_REVERT reset (Table 19-3): MGMT alone restarts, the old bank resumes and serves what was held, and the reset is reported, its events
in ascending number (R337, R338, R388, R392). -/
def State.revert (s : State) (reread : List (RecordId × CopyId)) : State :=
  if !s.pwr.held.contains .rallyRevert ∨ s.rally.phase ≠ .handover then s
  else
    let r := s.rally
    let s3 := s.endIntegrator.mgmtRestart.onPwr fun p => { p with lastReset := .rallyRevert, held := enumDel p.held .rallyRevert }
    let crashed := r.reason == 6
    let s4 := s3.resumeOld crashed (if crashed then !r.bankB else r.bankB) reread
    let s5 := (if crashed then s4.rejectStaged else s4.keepStaged).freeWatchdog
    let s6 := ((s5.onRally fun q => { q with phase := q.restPhase }).serveHeld).judgeStormsSince s.flt.counts
    (s6.raise { ev := 115, data := u8 r.reason ++ u32 r.fromVersion ++ u32 r.toVersion }).reportRevert (s.pwr.dev == .standby)

/-! ### The end of probation (R383, R386, R392) -/

/-- PROBATION has ended: ROLLBACK_COUNTER is raised, then the slot becomes ACTIVE and is selected, and EV114 is raised. -/
def State.endProbation (s : State) : State :=
  if s.rally.phase ≠ .probation then s
  else
    let r := s.rally
    let s1 := s.onFlash fun f => { f with
      rollback := max f.rollback (min 255 (s.slotOfBank r.bankB).rollbackValue), slotSelect := r.bankB }
    let s2 := (s1.onSlot r.bankB fun y => { y with state := .active }).writeDue (12 + b2n r.bankB)
    let s3 := s2.onRally fun q => { q with
      phase := .idle, outcome := 1, reason := 0, outcomeAt := s.now, outcomeCold := r.coldRun, coldRun := false, coldReset := false }
    s3.raise { ev := 114, data := u32 r.fromVersion ++ u32 r.toVersion ++ u64 r.gap ++ u8 (b2n r.coldRun) }

end Sys2Proof.Machine
end

