-- ==== Sys2Proof/Machine/PowerEvents.lean ====
section
/-! DEFINITION. The commands of power, resets, start-up, wake and transitions (R334, R350 to R373), the commit of PERSIST (R314), the log
write (R345), and the load of Campion's images (R327). -/

namespace Sys2Proof.Machine

open Sys2Proof

/-! ### Resets (R364, R369 to R371) -/

/-- VIN rises through the POR level (R364). The test access port starts afresh, with TRST_N as it stands (log 51). `torn`: the loss of power
before it came while a record was being programmed (R345). -/
def execPowerOnReset (s : State) (torn : Bool := false) : Host.Outcome State Fault Refusal :=
  let s1 := (if torn then s.tearRecord else s).assertReset .por
  .next { s1 with tap := { Tap.reset with edges := s.tap.edges, trstLow := s.tap.trstLow } }

/-- VIN below the brown-out level (R364). `torn`: a record was being programmed (R345). -/
def execBrownOut (s : State) (torn : Bool := false) : Host.Outcome State Fault Refusal :=
  .next ((if torn then s.tearRecord else s).assertReset .brownOut)

/-- RESET_N low (R369). -/
def execResetN (s : State) : Host.Outcome State Fault Refusal := .next (s.assertReset .resetN)

/-- The sources other than RESET_N let go of the reset (R364, R372). -/
def execResetRelease (straps : Straps) (s : State) : Host.Outcome State Fault Refusal :=
  .next (s.releaseHeld (fun c => c != .resetN) straps)

/-- RESET_N returns high (R369, R372). -/
def execResetNRelease (straps : Straps) (s : State) : Host.Outcome State Fault Refusal :=
  .next (s.releaseHeld (fun c => c == .resetN) straps)

/-- A missing service of the watchdog, or one outside its window (R334, R391, R392). -/
def execWatchdogExpiry (s : State) : Host.Outcome State Fault Refusal := .next (if s.yarrowRuns then s.crash false else s)

/-- A service of the watchdog (R334). -/
def execWatchdogService (s : State) : Host.Outcome State Fault Refusal := .next (if s.yarrowRuns then s.countBoot.serviceWatchdog else s)

/-- The two cores differ (R334). -/
def execLockstepDifference (s : State) : Host.Outcome State Fault Refusal := .next (if s.yarrowRuns then s.crash true else s)

/-- Firmware has initialised (R365 to R368). `images`: what the boot ROM found of the stored images. -/
def execBootComplete (pins : LightPins) (s : State) (images : StoredImages := {})
    (reread : List (RecordId × CopyId) := []) : Host.Outcome State Fault Refusal :=
  .next (if s.pwr.life == .booting then s.bootUp pins images reread else s)

/-- The commits that RESET_CMD waits for are done (R370). -/
def execDictionaryResetAssert (s : State) : Host.Outcome State Fault Refusal := .next s.assertDictionaryReset

/-- The slow clock changes over to the crystal (R373). -/
def execSlowCrystalChangeover (s : State) : Host.Outcome State Fault Refusal := .next (s.onPwr fun p => { p with crystal := true })

/-! ### Transitions (R351, R353, R357) -/

/-- A step of a transition completes (R351). -/
def execStateTransitionDone (s : State) : Host.Outcome State Fault Refusal := .next s.completeStep

/-- 10 s without a host in READY (R353). -/
def execHostAbsentReadyTimeout (s : State) : Host.Outcome State Fault Refusal := .next (s.moveFrom .ready [.standby])

/-- 60 s without a host and without traffic in STANDBY (R353). -/
def execParkIdleTimeout (s : State) : Host.Outcome State Fault Refusal := .next (s.moveFrom .standby [.park])

/-- A domain woken on demand has been idle for 100 ms (R357). -/
def execDomainIdleTimeout (d : Domain) (s : State) : Host.Outcome State Fault Refusal := .next (s.idleDomain d)

/-! ### PARK and wake (R354, R355, R361, R362) -/

/-- The slow-clock edge of the sleep entry (R362). -/
def execSleepGo (fired : WakeBits) (s : State) (levels : Option LightPins := none) : Host.Outcome State Fault Refusal :=
  .next (s.sleepGo fired levels)

/-- Wake sources fire at an AON sampling (R361). `levels`: the levels of LIGHT_ON and LIMP_N sampled at it, where they are new (R415); a
fallback beam whose light no pin requests any longer ends (R219). -/
def execWakeSource (fired : WakeBits) (s : State) (levels : Option LightPins := none) : Host.Outcome State Fault Refusal :=
  let s1 := s.wakePins fired levels
  .next ((if s1.up then s1.judgeRelease else s1).wakeBy (s.enabledWakes fired))

/-- WAKE_ALARM_S of slow count has expired (R361). -/
def execWakeAlarm (s : State) : Host.Outcome State Fault Refusal := .next (if s.alarmArmed then s.wakeBy [4] else s)

/-- Yarrow has resumed from PARK (R355): an entry to STANDBY, which performs a pending cold activation (R393). -/
def execParkResume (s : State) (reread : List (RecordId × CopyId) := []) : Host.Outcome State Fault Refusal :=
  .next (if s.pwr.life == .parked && s.pwr.refclk then (s.resume reread).judgeCold else s)

/-! ### Flash work of firmware (R314, R327, R345) -/

/-- A commit of PERSIST is due (R314): for dirty values, for a STORE that waited, or for defaults still to be written. It waits while Yarrow hands over (R333). -/
def execPersistCommitDue (s : State) : Host.Outcome State Fault Refusal :=
  .next (if s.flashWorks && !s.dict.committing && (!s.dict.dirty.isEmpty || s.dict.storeDue || s.dict.restoring) then s.beginCommit else s)

/-- Queued records are written to the log (R345). -/
def execLogWrite (s : State) : Host.Outcome State Fault Refusal := .next s.writeQueue

/-- Campion has loaded the fallback images it uses (R327). `reread`: the copies that passed their second look only (R281). -/
def execCampionImageLoadDone (s : State) (reread : List (RecordId × CopyId) := []) : Host.Outcome State Fault Refusal :=
  .next ((s.loadImage.rereadCopies RecordId.isImage reread).judgeStormsSince s.flt.counts)

end Sys2Proof.Machine
end

