-- ==== Sys2Proof/Machine/Rally.lean ====
section
/-! DEFINITION. The commands of Rally (R387 to R393). -/

namespace Sys2Proof.Machine

open Sys2Proof

/-- The new bank has been loaded and checked (R387). -/
def execBankLoadDone (load : BankLoad) (s : State) : Host.Outcome State Fault Refusal := .next (s.bankLoaded load)

/-- The hand-over begins (R387, R388). -/
def execHandoverQuiesce (s : State) : Host.Outcome State Fault Refusal := .next s.quiesce

/-- The new image judges the hand-over record (R391). -/
def execHandoverResume (verdict : HandoverVerdict) (s : State) : Host.Outcome State Fault Refusal := .next (s.judgeRecord verdict)

/-- The RALLY_REVERT reset (R392). `reread`: the copies of records read back that passed their second look only (R280, R281). -/
def execRallyRevert (s : State) (reread : List (RecordId × CopyId) := []) : Host.Outcome State Fault Refusal := .next (s.revert reread)

/-- The end of probation (R392). -/
def execProbationEnd (s : State) : Host.Outcome State Fault Refusal := .next s.endProbation

/-- The new image resumes after a cold activation (R393). `reread`: the copies of records that passed their second look only (R280, R281). -/
def execColdActivationResume (s : State) (reread : List (RecordId × CopyId) := []) : Host.Outcome State Fault Refusal :=
  .next (s.coldResume reread)

end Sys2Proof.Machine
end

