-- ==== Sys2Proof/Machine/Requests.lean ====
section
/-! DEFINITION. The commands of the Grenz protocol on any transport: reads, writes, block transfers, sessions and their time limits
(R291 to R295, R305, R306), and PARAM_REQ over Vexlink (R262). -/

namespace Sys2Proof.Machine

open Sys2Proof

/-- READ (R293). -/
def execRead (r : Req) (index sub : Nat) (s : State) : Host.Outcome State Fault Refusal := .next (s.read r index sub)

/-- WRITE (R293, R311). -/
def execWrite (r : Req) (index sub : Nat) (data : List Byte) (s : State) : Host.Outcome State Fault Refusal :=
  .next (s.write r index sub data)

/-- BLOCK_READ_INIT (R294). -/
def execBlockReadInit (r : Req) (index sub offset length blksize : Nat) (s : State) : Host.Outcome State Fault Refusal :=
  .next (s.blockRead r index sub offset length blksize)

/-- BLOCK_WRITE_INIT (R294). -/
def execBlockWriteInit (r : Req) (index sub offset total : Nat) (s : State) : Host.Outcome State Fault Refusal :=
  .next (s.blockWrite r index sub offset total)

/-- BLOCK_SEG from the sender of a write (R294). Over Vexlink SEQ stands for the DOMAIN offset in TAG (R262). -/
def execBlockSeg (r : Req) (seq : Nat) (last : Bool) (data : List Byte) (s : State) : Host.Outcome State Fault Refusal :=
  .next (s.serveFrame r opBlockSeg fun s => if r.via = .vexlink then s.vexSeg r seq last data else s.hostSeg r seq last data)

/-- BLOCK_CRC from the sender of a write (R294, R295). -/
def execBlockCrc (r : Req) (block crc : Nat) (s : State) : Host.Outcome State Fault Refusal :=
  .next (s.serveFrame r opBlockCrc fun s => s.hostCrc r block crc)

/-- BLOCK_ACK from the receiver of a read (R295). FINAL repeats what the module knows. -/
def execBlockAck (r : Req) (block result blksize : Nat) (_final : Bool) (s : State) : Host.Outcome State Fault Refusal :=
  .next (s.serveFrame r opBlockAck fun s => s.hostAck r block result blksize)

/-- ABORT from the host (R295). -/
def execAbort (r : Req) (_code : Nat) (s : State) : Host.Outcome State Fault Refusal :=
  .next (s.serveFrame r opAbort fun s => s.hostAbort r)

/-- A gap of more than 50 ms in a transfer (R295). -/
def execBlockTimeout (s : State) : Host.Outcome State Fault Refusal := .next s.transferTimeout

/-- 45 ms of a request that waits (R99, R291). -/
def execRequestTimeLimit (r : Req) (s : State) : Host.Outcome State Fault Refusal := .next (s.timeLimit r)

/-- UNLOCK_REQ (R305). -/
def execUnlockReq (r : Req) (level : Nat) (s : State) : Host.Outcome State Fault Refusal :=
  let m : GrenzMsg := ⟨r, opUnlockReq, 0, 0, 0, u8 level ++ [0, 0, 0]⟩
  .next (s.serve m fun s => s.unlockRequest m level)

/-- UNLOCK_RESP (R305). -/
def execUnlockResp (r : Req) (level : Nat) (response : List Byte) (s : State) : Host.Outcome State Fault Refusal :=
  let m : GrenzMsg := ⟨r, opUnlockResp, 0, 0, 0, u8 level ++ [0, 0, 0] ++ response⟩
  .next (s.serve m fun s => s.unlockAnswer m level response)

/-- 5 s without UNLOCK_RESP (R305). -/
def execUnlockTimeout (via : Transport) (s : State) : Host.Outcome State Fault Refusal := .next (s.voidChallenge via)

/-- LOCK (R306). -/
def execLock (r : Req) (s : State) : Host.Outcome State Fault Refusal :=
  let m : GrenzMsg := ⟨r, opLock, 0, 0, 0, []⟩
  .next (s.serve m fun s => s.lockRequest m)

/-- ACCESS_IDLE_S without a request on a transport (R306). -/
def execAccessIdleTimeout (via : Transport) (s : State) : Host.Outcome State Fault Refusal := .next (s.endSession via)

/-- PARAM_REQ (R262). -/
def execParamReq (p : VxPacket) (s : State) : Host.Outcome State Fault Refusal :=
  .next (s.consume p (· == 0x30) fun s h units => s.paramPacket h units p.payload)

/-- A read of LOG_RECORDS (R347): the whole object by block. Over Vexlink it completes when its last segment has been sent, on the other
transports at the last BLOCK_ACK. -/
def execLogRecords (r : Req) (s : State) : Host.Outcome State Fault Refusal :=
  .next (s.blockRead r (K.logRecordsObj / 256) (K.logRecordsObj % 256) 0 0 32)

end Sys2Proof.Machine
end

