-- ==== Sys2Proof/Machine/Scans.lean ====
section
/-! DEFINITION. The commands of the memory scan engine and of flash records (R100 to R103, R277 to R282). -/

namespace Sys2Proof.Machine

open Sys2Proof

/-- SCAN_DONE (R277): the request that runs completes, and its check value is reported or judged. A verification in SEAL mode completes
with SURFACE_VERIFY_DONE. `reread`: the copies that passed their second look only as a region was reloaded from its record (R45, R281), which
is before the reload's own events (R337). -/
def execScanDone (mis : List (Nat × Byte)) (s : State) (reread : List (RecordId × CopyId) := []) : Host.Outcome State Fault Refusal :=
  .next (match s.chk.scan with
    | none => s
    | some j =>
      match j.user with
      | .verify n => if (s.surface n).phase = .verifying then s else (s.scanned s.flt.counts j mis).endScan
      | _ =>
        let t := (s.scanned s.flt.counts j mis).endScan
        if t.dict.reloads = s.dict.reloads then t else ((s.rereadCopies j.user.reloads reread).scanned s.flt.counts j mis).endScan)

/-- SURFACE_VERIFY_DONE (R100, R102). -/
def execSurfaceVerifyDone (mis : List (Nat × Byte)) (s : State) : Host.Outcome State Fault Refusal :=
  .next (match s.chk.scan with
    | some ⟨.verify n, _, len⟩ =>
      if (s.surface n).phase = .verifying then (s.verified n (misread (s.surfRead n 0 len) mis)).endScan else s
    | _ => s)

/-- SCRUB_CAL_PERIOD (R278): a pass over the calibration store starts, unless one still runs. -/
def execScrubCalPeriod (s : State) : Host.Outcome State Fault Refusal :=
  .next (if s.pwr.comp && !(s.chk.scan.toList ++ s.chk.waiting).any (fun j => match j.user with
        | .scrubCal _ => true
        | _ => false) then s.requestScan ⟨.scrubCal 0, 0x148000, 4096⟩
    else s)

/-- SCRUB_SURF_PERIOD (R278): a pass over the VALID surfaces starts. -/
def execScrubSurfPeriod (s : State) : Host.Outcome State Fault Refusal :=
  let valid := (upTo 64).filter fun n => (s.surface n).phase == .valid
  .next (if s.pwr.comp then
      valid.foldl (fun s n =>
        if (s.chk.scan.toList ++ s.chk.waiting).any fun j => j.user == .scrubSurf n then s
        else s.requestScan ⟨.scrubSurf n, 0, s.surfLen n⟩) s
    else s)

/-- FLASH_RECORD_WRITE (R281): one copy of a record has been written and read back; a record written may bring back a fallback
image (R210). Writes wait while Yarrow hands over (R333). -/
def execFlashRecordWrite (record : RecordId) (copy : CopyId) (verified : Bool) (s : State) : Host.Outcome State Fault Refusal :=
  .next (if s.flashWorks then (s.writeCopy record copy verified).judgeHealth else s)

end Sys2Proof.Machine
end

