-- ==== Sys2Proof/Machine/Segments.lean ====
section
/-! DEFINITION. The commands of the auxiliary segment driver's frame (R395 to R404). -/

namespace Sys2Proof.Machine

open Sys2Proof

/-- AUX_FRAME_START (R395, R403). -/
def execAuxFrameStart (s : State) : Host.Outcome State Fault Refusal := .next s.auxFrame

/-- AUX_LINE_SLOT (R397, R400): the line, and the sinks that cannot reach their current. -/
def execAuxLineSlot (line : Fin 8) (failing : List (Fin 16)) (s : State) : Host.Outcome State Fault Refusal := .next (s.lineSlot line.val (failing.map Fin.val))

/-- AUX_SHIFT_DONE (R404): the bits returned, packed. -/
def execAuxShiftDone (returned : List Byte) (s : State) : Host.Outcome State Fault Refusal := .next (s.shiftDone returned)

/-- AUX_BLANK_RISE (R403). -/
def execAuxBlankRise (s : State) : Host.Outcome State Fault Refusal := .next s.blankRise

/-- AUX_LATCH (R403). -/
def execAuxLatch (s : State) : Host.Outcome State Fault Refusal := .next s.latchEnd

end Sys2Proof.Machine
end

