-- ==== Sys2Proof/Machine/Sense.lean ====
section
/-! DEFINITION. Commands of the sense path (R137 to R144). -/

namespace Sys2Proof.Machine

open Sys2Proof

/-- SENSE_PROBE_DONE (R140): the records and zone results of the sense cycle in progress are formed, once in a cycle. -/
def execSenseProbeDone (readings : Readings ProbeReading) (s : State) : Host.Outcome State Fault Refusal :=
  .next (if s.sense.inCycle && s.sense.cells == .probe then s.probeDone readings else s)

/-- SENSE_RESULTS_DELIVERED (R140, R142, R144): the map is complete and the results are delivered. -/
def execSenseResultsDelivered (adcRef : Readings Nat) (bins : Readings Nat) (s : State) : Host.Outcome State Fault Refusal :=
  .next (if s.sense.inCycle && s.sense.cells == .road then s.resultsDelivered adcRef bins else s)

end Sys2Proof.Machine
end

