-- ==== Sys2Proof/Machine/SupplyOps.lean ====
section
/-! DEFINITION. The inner loop, phase faults, feed-forward and the VLED following-error supervisor (R151 to R156, R159), and the
measured-power check (R166). -/

namespace Sys2Proof.Machine

open Sys2Proof

/-! ### Phases (R151 to R153) -/

/-- Phase `k`. -/
def State.phase (s : State) (k : Nat) : Phase := s.sup.phases.getD k Phase.reset

/-- `s` with phase `k` modified. -/
def State.onPhase (s : State) (k : Nat) (f : Phase → Phase) : State := s.onSup fun u => { u with phases := u.phases.modify k f }

/-- The healthy OFF phase that follows, cyclically, the phase turned ON most recently; phases that a list names are left out
(R151: a phase changes state at most once per sample). -/
def State.nextPhase (s : State) (but : List Nat) : Option Nat :=
  ((upTo 6).map fun i => (s.sup.lastOn + 1 + i) % 6).find? fun k => (s.phase k).healthy && !(s.phase k).on && !but.contains k

/-- The phase that has been ON longest. -/
def State.oldestPhase (s : State) : Option Nat :=
  s.phasesOn.foldl (fun a k => match a with
    | some b => if (s.phase k).onSeq < (s.phase b).onSeq then some k else some b
    | none => some k) none

/-- A phase is turned ON. -/
def State.phaseOn (s : State) (k : Nat) : State :=
  (s.onSup fun u => { u with lastOn := k, onSeq := u.onSeq + 1 }).onPhase k fun p => { p with on := true, onSeq := s.sup.onSeq + 1 }

/-- A phase is turned OFF. -/
def State.phaseOff (s : State) (k : Nat) : State := s.onPhase k fun p => { p with on := false }

/-- The next phase in rotation is turned ON, where there is one. -/
def State.turnOn (s : State) : State :=
  match s.nextPhase [] with
  | some k => s.phaseOn k
  | none => s

/-- The phase that has been ON longest is turned OFF, where there is one. -/
def State.turnOff (s : State) : State :=
  match s.oldestPhase with
  | some k => s.phaseOff k
  | none => s

/-- `n` phases are turned ON in rotation order. -/
def State.turnOnMany (s : State) : Nat → State
  | 0 => s
  | n + 1 => s.turnOn.turnOnMany n

/-- Every phase is turned OFF. -/
def State.allOff (s : State) : State := s.onSup fun u => { u with phases := u.phases.map fun p => { p with on := false } }

/-- The cycle-by-cycle limit turns the ON phases that reached it OFF at once (R151). -/
def State.limitPhases (s : State) (hit : List Nat) : State := hit.foldl State.phaseOff s

/-- The inner loop at a sample (R152). A phase that the limit turned OFF counts as turned OFF by the loop, which then changes no
other (DEDUCED, log 31). -/
def State.innerLoop (s : State) (hit : List Nat) : State :=
  if !hit.isEmpty then s.limitPhases hit
  else if s.vledError < -(s.par K.vband : Int) ∧ s.phasesOn.length < s.nOk then s.turnOn
  else if (s.par K.vband : Int) < s.vledError ∧ 0 < s.phasesOn.length then s.turnOff
  else s

/-! ### Phase faults (R156) -/

/-- What a sample does to a phase's looks: the phase, the data of a look that passed, and whether the judgement is LASTING. -/
structure PhaseStep where
  phase   : Phase
  passed  : List (List Byte)
  lasting : Bool
  deriving DecidableEq, Repr

/-- The samples at the cycle-by-cycle limit among the last 128. -/
def Phase.limitCount (p : Phase) : Nat := (p.limits.filter id).length

/-- The limit condition at a sample (R156). -/
def Phase.stepLimit (p : Phase) (hit : Bool) : PhaseStep :=
  let q := { p with limits := (hit :: p.limits).take 128 }
  let n := q.limitCount
  match p.limitLook with
  | none => ⟨if 64 < n then { q with limitLook := some (0, n) } else q, [], false⟩
  | some (k, first) =>
    if k + 1 < 128 then ⟨{ q with limitLook := some (k + 1, first) }, [], false⟩
    else ⟨{ q with limitLook := none }, if 64 < n then [] else [u16 first ++ u16 n], decide (64 < n)⟩

/-- The start condition at a sample (R156). -/
def Phase.stepStart (p : Phase) (failed : Bool) : PhaseStep :=
  match p.startLook with
  | none => ⟨if failed then { p with startLook := some 0 } else p, [], false⟩
  | some k =>
    if failed then ⟨{ p with startLook := none }, [], true⟩
    else if k + 1 < 128 then ⟨{ p with startLook := some (k + 1) }, [], false⟩
    else ⟨{ p with startLook := none }, [u16 1 ++ u16 0], false⟩

/-- Both conditions of a healthy phase at a sample (R156). -/
def Phase.step (p : Phase) (look : PhaseLook) : PhaseStep :=
  if !p.healthy then ⟨p, [], false⟩
  else
    let a := p.stepLimit look.atLimit
    let b := a.phase.stepStart look.failed
    ⟨b.phase, a.passed ++ b.passed, a.lasting || b.lasting⟩

/-- A LASTING phase fault (R156, R206); PK follows n_ok (R160, R217). -/
def State.phaseFault (s : State) (k : Nat) : State :=
  let s1 := s.onPhase k fun p => { p with healthy := false, on := false, limitLook := none, startLook := none }
  let s2 := s1.raise { ev := 53, data := u16 k, lasting := true, check := chkPhase }
  (s2.react (s2.par K.reactPhase) [] (s2.evSeverity 53)).judgeBudgets.judgeHealth

/-- A TRANSIENT phase look (R156). -/
def State.phaseTransient (s : State) (d : List Byte) : State :=
  (s.onSup fun u => { u with phaseTransients := inc32 u.phaseTransients 1 }).noteTransient chkPhase d

/-- The looks of the six phases at a sample (R156). -/
def State.judgePhases (s : State) (looks : List PhaseLook) : State :=
  let steps := s.sup.phases.zipIdx.map fun e => e.1.step (looks.getD e.2 ⟨false, false⟩)
  let s1 := s.onSup fun u => { u with phases := steps.map PhaseStep.phase }
  let s2 := ((steps.map PhaseStep.passed).flatten).foldl State.phaseTransient s1
  steps.zipIdx.foldl (fun s e => if e.1.lasting then s.phaseFault e.2 else s) s2

/-! ### Following error (R159) -/

/-- The supervisor at a sample (R159). -/
def State.superviseVled (s : State) : State :=
  let e := s.vledError
  let u := s.sup
  if s.par K.vledFeLimit < e.natAbs then
    if !u.feRunning then s.onSup fun u => { u with feRunning := true, feGood := 0, fePeak := e.natAbs, feAbove := decide (0 < e) }
    else if u.fePeak < e.natAbs then s.onSup fun u => { u with feGood := 0, fePeak := e.natAbs, feAbove := decide (0 < e) }
    else s.onSup fun u => { u with feGood := 0 }
  else if u.feRunning then
    if u.feGood < 9 then s.onSup fun u => { u with feGood := u.feGood + 1 }
    else s.noteExcursion
  else s

/-- V_SET while soft start runs (R155): it ramps from 0 V to its target over 2.0 ms. -/
def State.rampVset (s : State) : State :=
  if s.sup.vledOn && s.sup.softStart then s.onSup fun u => { u with vset := s.nextVset u.target, vbase := s.nextVset u.target } else s

/-- The following-error supervisor acts (R159, R179, R209, R210). -/
def State.vledFeActs (s : State) : State :=
  let again := match s.sup.feLeft with
    | some t => decide (s.now ≤ t + 60000000)
    | none => false
  let s1 := s.raiseRaw
    { ev := 48, data := u8 (b2n s.sup.feAbove) ++ u16 s.sup.fePeak, lasting := true, check := chkVledFe }
  let s2 := (s1.stopInjection 3).onSup fun u => { u with feSecond := u.feSecond || again, feRunning := false }
  s2.enterDark .supervisor .supervisor

/-! ### Measured power (R166) -/

/-- The limit of P_meas, 1.05 x B + 0.5 W, in mW. -/
def State.powerLimit (s : State) : Nat := 105 * s.budgetB + 500

/-- The sum of the zones' latest unmarked current-monitor samples, uA. -/
def State.zoneCurrents (s : State) : Nat := sumNat (s.zones.map fun z => z.samples.getD 0 0)

/-- The check of P_meas (R166). -/
def State.checkPower (s : State) (vledMeanMv : Nat) : State :=
  let p := vledMeanMv * s.zoneCurrents
  let mw := p / 1000000
  let high := decide (s.powerLimit * 1000000 < p)
  match s.sup.pmeasLook, high with
  | none, true => s.onSup fun u => { u with pmeasLook := some mw }
  | none, false => s
  | some first, false => (s.onSup fun u => { u with pmeasLook := none }).transient chkPower (u32 first ++ u32 mw)
  | some _, true =>
    let s1 := (s.onSup fun u => { u with pmeasLook := none }).raise
      { ev := 55, data := u32 mw ++ u32 s.powerLimit, lasting := true, check := chkPower }
    s1.react (s1.par K.reactPower) [] (s1.evSeverity 55)

end Sys2Proof.Machine
end

