-- ==== Sys2Proof/Machine/Supply.lean ====
section
/-! DEFINITION. The commands of the LED supply and the control engine (chapter 8), and the overvoltage hold (R413). -/

namespace Sys2Proof.Machine

open Sys2Proof

/-- VLED_SAMPLE (R151, R152, R155, R156, R159): one 100 ns sample of the rail. With VLED off, also by a phase fault of this sample,
the supervisor does not run. -/
def execVledSample (vledMv : Nat) (phases : List PhaseLook) (s : State) : Host.Outcome State Fault Refusal :=
  let s1 := s.onSup fun u => { u with
    vled := vledMv, vledSum := u.vledSum + vledMv, vledCnt := u.vledCnt + 1, vledMin := min u.vledMin vledMv }
  if s1.sup.vledOn then
    let s2 := s1.rampVset
    let hit := s2.phasesOn.filter fun k => (phases.getD k ⟨false, false⟩).atLimit
    let s3 := (s2.innerLoop hit).judgePhases phases
    .next ((if s3.sup.vledOn then s3.superviseVled else s3).judgeStormsSince s.flt.counts)
  else .next s1

/-- SENSE_FEED_FORWARD (R153). -/
def execSenseFeedForward (edge : FeedEdge) (s : State) : Host.Outcome State Fault Refusal :=
  if s.sup.vledOn then
    match edge with
    | .senseEntry => .next s.allOff
    | .senseExit => .next (s.turnOnMany s.tim.disp.phasesNeeded)
    | .probeOn => .next s.turnOn
    | .probeOff => .next s.turnOff
  else .next s

/-- VLED_FE_TIMEOUT (R159): the following-error timer reaches VLED_FE_TIME_US. -/
def execVledFeTimeout (s : State) : Host.Outcome State Fault Refusal :=
  .next (if s.sup.vledOn && s.sup.feRunning then s.vledFeActs else s)

/-- SOFT_START_DONE (R34, R35, R155): V_SET is at its target and zone switches may close. `reread`: copies of GZ_STORE that passed their
second look only as the gains were seeded for this start (R173, R281). -/
def execSoftStartDone (s : State) (reread : List (RecordId × CopyId) := []) : Host.Outcome State Fault Refusal :=
  if s.sup.softStart then
    let goal := if s.par K.vledMode = 1 then s.par K.vledFixed else s.sup.target
    .next ((((s.onSup fun u => { u with softStart := false, vset := goal, vbase := goal }).endModuleWide).rereadCopies
      (fun r => r == .gzStore && s.sup.gzRead) reread).judgeStormsSince s.flt.counts)
  else .next s

/-- GAIN_PERIOD (R167 to R177). The zone loops run while VLED is on, for the zones whose gain period is due. -/
def execGainPeriod (zonesDone : Nat) (headroomDone : Bool) (s : State) : Host.Outcome State Fault Refusal :=
  .next (if s.sup.vledOn && ((upTo 512).any s.gainDueFor || !headroomDone) then s.gainPeriod zonesDone headroomDone else s)

/-- ZONE_FE_TIMEOUT (R175, R206): a zone's following-error timer reaches ZLOOP_FE_TIME_MS. -/
def execZoneFeTimeout (z : Fin 512) (s : State) : Host.Outcome State Fault Refusal :=
  if (s.zone z.val).fePending then
    let s1 := s.onZone z.val fun q => { q with degraded := true, fePending := false }
    let s2 := s1.raise { ev := 52, data := u16 z.val, lasting := true, check := chkZoneFe }
    .next (s2.react (s2.par K.reactZoneFe) [z.val] (s2.evSeverity 52)).judgeHealth
  else .next s

/-- MEASURED_POWER_CHECK (R166): once per 16 zone cycles, with the mean of the VLED samples. -/
def execMeasuredPowerCheck (vledMeanMv : Nat) (s : State) : Host.Outcome State Fault Refusal :=
  .next (if s.sup.vledOn then s.checkPower vledMeanMv else s)

/-- Whether any zone's Gz has moved by 16 or more from the stored value (R173). -/
def State.gainsMoved (s : State) : Bool := s.zones.any fun z => decide (16 ≤ absDiff z.gz z.stored)

/-- GZ_STORE_PERIOD (R173): in LIT or FALLBACK, GZ_STORE is to be written where a gain has moved. -/
def execGzStorePeriod (s : State) : Host.Outcome State Fault Refusal :=
  .next (if s.lighting && s.gainsMoved then s.writeDue 1 else s)

/-- OVERVOLTAGE_ENTER (R413): the power stage holds every phase OFF and opens every zone switch. -/
def execOvervoltageEnter (s : State) : Host.Outcome State Fault Refusal :=
  if s.sup.ovHold then .next s
  else .next (((s.onSup fun u => { u with ovHold := true }).goDark .supervisor).systemRecord)

/-- Whether a transition in progress has LIT as its next step. -/
def State.lightingNext (s : State) : Bool :=
  match s.pwr.trans with
  | some t => t.steps.head? == some DevState.lit
  | none => false

/-- OVERVOLTAGE_LEAVE (R413): VIN has been below 25.0 V for 10 ms; VLED soft-starts in LIT, FALLBACK and SERVICE. -/
def execOvervoltageLeave (s : State) : Host.Outcome State Fault Refusal :=
  if s.sup.ovHold then
    let s1 := s.onSup fun u => { u with ovHold := false }
    .next (if s1.lighting || s1.pwr.dev == .service || s1.lightingNext then s1.beginSoftStart else s1)
  else .next s

end Sys2Proof.Machine
end

