-- ==== Sys2Proof/Machine/Svc.lean ====
section
/-! DEFINITION. The commands of the SVC port (R378 to R380, R384). -/

namespace Sys2Proof.Machine

open Sys2Proof

/-- A GRENZ frame (R380). -/
def execSvcGrenz (f : SvcFrame) (s : State) : Host.Outcome State Fault Refusal :=
  .next (s.svcTake f true ⟨0, 0⟩)

/-- IMG_BEGIN (R384). -/
def execImgBegin (f : SvcFrame) (s : State) : Host.Outcome State Fault Refusal := .next (s.svcTake f true ⟨0, 0⟩)

/-- IMG_DATA (R384). `written`: the chunk that the part completes could be written to flash. -/
def execImgData (f : SvcFrame) (s : State) (written : Bool := true) : Host.Outcome State Fault Refusal :=
  .next (s.svcTake f written ⟨0, 0⟩)

/-- IMG_END (R384). `written`: the slot record could be written to flash; `fails`: the failed writes of its copies (R281). -/
def execImgEnd (f : SvcFrame) (s : State) (written : Bool := true) (fails : CopyFails := ⟨0, 0⟩) : Host.Outcome State Fault Refusal :=
  .next (s.svcTake f written fails)

/-- IMG_ABORT (R384). -/
def execImgAbort (f : SvcFrame) (s : State) : Host.Outcome State Fault Refusal := .next (s.svcTake f true ⟨0, 0⟩)

/-- 2 s of silence in an open transfer (R384). -/
def execSvcTransferSilence (s : State) : Host.Outcome State Fault Refusal := .next s.endStaging

/-- An idle of 4 character times (R378): a partial frame is discarded, and the next byte is looked at for a START. -/
def execSvcIdleDiscard (s : State) : Host.Outcome State Fault Refusal := .next (s.onRally fun r => { r with svcBuf := [] })

end Sys2Proof.Machine
end

