-- ==== Sys2Proof/Machine/Thermal.lean ====
section
/-! DEFINITION. The commands of the thermal supervisor (chapter 9). -/

namespace Sys2Proof.Machine

open Sys2Proof

/-- TEMP_SAMPLE (R181): a reference diode is sampled, in the states in which it is. A reading is held as an s16. -/
def execTempSample (td : Fin 4) (t10 : Int) (s : State) : Host.Outcome State Fault Refusal :=
  .next (if s.sampled td.val then s.sampleDiode td.val (heldT10 t10) else s)

/-- THERM_ZONE_LOOK_TIMEOUT (R194): no new estimate of the zone has come within 50 ms of its first look, and the judgement is
LASTING. While the zone is not valid it causes no shutdown (R188), and the look waits (R198). -/
def execThermZoneLookTimeout (z : Fin 512) (s : State) : Host.Outcome State Fault Refusal :=
  match (s.ztemp z.val).shutLook, (s.ztemp z.val).valid with
  | some _, true =>
    let s1 := (s.putZtemp z.val { s.ztemp z.val with shutLook := none }).raise (shutRaise z.val)
    .next ((s1.shutDown z.val ((s.ztemp z.val).hist.take 16) s.mgmt.reconstructed).judgeBudgets.judgeHealth)
  | _, _ => .next s

/-- SHUTDOWN_RECORD_WRITE (R195): the shutdown record enters the thermal-shutdown area, which holds 32. During a hand-over it waits for the
image that resumes (R388). -/
def execShutdownRecordWrite (s : State) : Host.Outcome State Fault Refusal :=
  match s.therm.records with
  | [] => .next s
  | r :: rest =>
    if s.rally.phase = .handover then .next s
    else
      let s1 := s.onTherm fun t => { t with records := rest }
      .next (s1.onFlash fun f => { f with thermLog := (f.thermLog ++ [r]).drop (f.thermLog.length + 1 - 32) })

end Sys2Proof.Machine
end

