-- ==== Sys2Proof/Machine/Dispatch.lean ====
section
/-! DEFINITION. The dispatch of every command to its meaning. -/

namespace Sys2Proof.Machine

open Sys2Proof

/-- A command's effect on everything but the queue of waiting commands. -/
def exec (i : Instr) (s : State) : Host.Outcome State Fault Refusal :=
  match i with
  | .powerOnReset torn => Sys2Proof.Machine.execPowerOnReset s torn
  | .brownOut torn => Sys2Proof.Machine.execBrownOut s torn
  | .resetRelease straps => Sys2Proof.Machine.execResetRelease straps s
  | .resetN => Sys2Proof.Machine.execResetN s
  | .watchdogExpiry => Sys2Proof.Machine.execWatchdogExpiry s
  | .watchdogService => Sys2Proof.Machine.execWatchdogService s
  | .lockstepDifference => Sys2Proof.Machine.execLockstepDifference s
  | .bootComplete pins images reread => Sys2Proof.Machine.execBootComplete pins s images reread
  | .overvoltageEnter => Sys2Proof.Machine.execOvervoltageEnter s
  | .overvoltageLeave => Sys2Proof.Machine.execOvervoltageLeave s
  | .globalCycleBoundary => Sys2Proof.Machine.execGlobalCycleBoundary s
  | .rowSlotStart => Sys2Proof.Machine.execRowSlotStart s
  | .zoneCycleBegin z sampleUa => Sys2Proof.Machine.execZoneCycleBegin z sampleUa s
  | .commit p => Sys2Proof.Machine.execCommit p s
  | .commitBind => Sys2Proof.Machine.execCommitBind s
  | .statisticsPassEnd looks => Sys2Proof.Machine.execStatisticsPassEnd looks s
  | .rowComplete looks => Sys2Proof.Machine.execRowComplete looks s
  | .compositionWatchdog stage => Sys2Proof.Machine.execCompositionWatchdog stage s
  | .halfLockDivergence field left right => Sys2Proof.Machine.execHalfLockDivergence field left right s
  | .guardPassDone misread => Sys2Proof.Machine.execGuardPassDone misread s
  | .guardRereadDone misread => Sys2Proof.Machine.execGuardRereadDone misread s
  | .monitorCopyDone => Sys2Proof.Machine.execMonitorCopyDone s
  | .senseProbeDone readings => Sys2Proof.Machine.execSenseProbeDone readings s
  | .senseResultsDelivered adcRef bins => Sys2Proof.Machine.execSenseResultsDelivered adcRef bins s
  | .reflexProcessingDone => Sys2Proof.Machine.execReflexProcessingDone s
  | .reflexHoldExpiry slot => Sys2Proof.Machine.execReflexHoldExpiry slot s
  | .vledSample vledMv phases => Sys2Proof.Machine.execVledSample vledMv phases s
  | .senseFeedForward edge => Sys2Proof.Machine.execSenseFeedForward edge s
  | .vledFeTimeout => Sys2Proof.Machine.execVledFeTimeout s
  | .softStartDone reread => Sys2Proof.Machine.execSoftStartDone s reread
  | .gainPeriod zonesDone headroomDone => Sys2Proof.Machine.execGainPeriod zonesDone headroomDone s
  | .zoneFeTimeout z => Sys2Proof.Machine.execZoneFeTimeout z s
  | .measuredPowerCheck vledMeanMv => Sys2Proof.Machine.execMeasuredPowerCheck vledMeanMv s
  | .gzStorePeriod => Sys2Proof.Machine.execGzStorePeriod s
  | .tempSample td t10 => Sys2Proof.Machine.execTempSample td t10 s
  | .thermZoneLookTimeout z => Sys2Proof.Machine.execThermZoneLookTimeout z s
  | .shutdownRecordWrite => Sys2Proof.Machine.execShutdownRecordWrite s
  | .hostHeartbeat addr seq => Sys2Proof.Machine.execHostHeartbeat addr seq s
  | .hostLossTimeout pins => Sys2Proof.Machine.execHostLossTimeout pins s
  | .limpNLowTimeout => Sys2Proof.Machine.execLimpNLowTimeout s
  | .limpNHighTimeout lightOn => Sys2Proof.Machine.execLimpNHighTimeout lightOn s
  | .lightOnTimeout => Sys2Proof.Machine.execLightOnTimeout s
  | .fbRenderPeriod => Sys2Proof.Machine.execFbRenderPeriod s
  | .renderSumsDone reread => Sys2Proof.Machine.execRenderSumsDone s reread
  | .renderCodesDone => Sys2Proof.Machine.execRenderCodesDone s
  | .rxLocked => Sys2Proof.Machine.execRxLocked s
  | .alignPoll lane look => Sys2Proof.Machine.execAlignPoll lane look s
  | .deskewDone arrivalUi => Sys2Proof.Machine.execDeskewDone arrivalUi s
  | .laneMapAccepted laneInfo => Sys2Proof.Machine.execLaneMapAccepted laneInfo s
  | .bringupRetry lane reason => Sys2Proof.Machine.execBringupRetry lane reason s
  | .linkLoss lane kind => Sys2Proof.Machine.execLinkLoss lane kind s
  | .vxLossTimeout => Sys2Proof.Machine.execVxLossTimeout s
  | .txIdleTimeout cancelled => Sys2Proof.Machine.execTxIdleTimeout s cancelled
  | .announceReceived level => Sys2Proof.Machine.execAnnounceReceived level s
  | .wakeBurstDetected => Sys2Proof.Machine.execWakeBurstDetected s
  | .ownPacketQueued => Sys2Proof.Machine.execOwnPacketQueued s
  | .txRestart => Sys2Proof.Machine.execTxRestart s
  | .packetHeader header ends credits errors => Sys2Proof.Machine.execPacketHeader header s ends credits errors
  | .surfWrite p => Sys2Proof.Machine.execSurfWrite p s
  | .surfRead p => Sys2Proof.Machine.execSurfRead p s
  | .beamLine p => Sys2Proof.Machine.execBeamLine p s
  | .paramReq p => Sys2Proof.Machine.execParamReq p s
  | .enum p ends => Sys2Proof.Machine.execEnum p s ends
  | .hostNak p => Sys2Proof.Machine.execHostNak p s
  | .unknownTypePacket p => Sys2Proof.Machine.execUnknownTypePacket p s
  | .outputPacketBoundary waited20us forwardWaiting buffered => Sys2Proof.Machine.execOutputPacketBoundary waited20us forwardWaiting s buffered
  | .creditSetTimer => Sys2Proof.Machine.execCreditSetTimer s
  | .statusPeriod => Sys2Proof.Machine.execStatusPeriod s
  | .scanDone misread reread => Sys2Proof.Machine.execScanDone misread s reread
  | .surfaceVerifyDone misread => Sys2Proof.Machine.execSurfaceVerifyDone misread s
  | .scrubCalPeriod => Sys2Proof.Machine.execScrubCalPeriod s
  | .scrubSurfPeriod => Sys2Proof.Machine.execScrubSurfPeriod s
  | .flashRecordWrite record copy verified => Sys2Proof.Machine.execFlashRecordWrite record copy verified s
  | .crcsStart r => Sys2Proof.Machine.execCrcsStart r s
  | .crcsAbort r => Sys2Proof.Machine.execCrcsAbort r s
  | .surfCmdClose r n => Sys2Proof.Machine.execSurfCmdClose r n s
  | .surfCmdClear r n => Sys2Proof.Machine.execSurfCmdClear r n s
  | .surfGeometryWrite r n sub data => Sys2Proof.Machine.execSurfGeometryWrite r n sub data s
  | .read r index sub => Sys2Proof.Machine.execRead r index sub s
  | .write r index sub data => Sys2Proof.Machine.execWrite r index sub data s
  | .blockReadInit r index sub offset length blksize => Sys2Proof.Machine.execBlockReadInit r index sub offset length blksize s
  | .blockWriteInit r index sub offset total => Sys2Proof.Machine.execBlockWriteInit r index sub offset total s
  | .blockSeg r seq last data => Sys2Proof.Machine.execBlockSeg r seq last data s
  | .blockCrc r block crc => Sys2Proof.Machine.execBlockCrc r block crc s
  | .blockAck r block result blksize final => Sys2Proof.Machine.execBlockAck r block result blksize final s
  | .abort r code => Sys2Proof.Machine.execAbort r code s
  | .blockTimeout => Sys2Proof.Machine.execBlockTimeout s
  | .requestTimeLimit r => Sys2Proof.Machine.execRequestTimeLimit r s
  | .unlockReq r level => Sys2Proof.Machine.execUnlockReq r level s
  | .unlockResp r level response => Sys2Proof.Machine.execUnlockResp r level response s
  | .unlockTimeout via => Sys2Proof.Machine.execUnlockTimeout via s
  | .lock r => Sys2Proof.Machine.execLock r s
  | .accessIdleTimeout via => Sys2Proof.Machine.execAccessIdleTimeout via s
  | .sync group tag => Sys2Proof.Machine.execSync group tag s
  | .heartbeat bus => Sys2Proof.Machine.execHeartbeat s bus
  | .eventFrameTimer => Sys2Proof.Machine.execEventFrameTimer s
  | .canBusOff => Sys2Proof.Machine.execCanBusOff s
  | .busOffRecovered => Sys2Proof.Machine.execBusOffRecovered s
  | .canCmdRecover r => Sys2Proof.Machine.execCanCmdRecover r s
  | .strangerFrame f => Sys2Proof.Machine.execStrangerFrame f s
  | .malformedFrame f => Sys2Proof.Machine.execMalformedFrame f s
  | .addrClash id => Sys2Proof.Machine.execAddrClash id s
  | .canAddrApply => Sys2Proof.Machine.execCanAddrApply s
  | .svcGrenz f => Sys2Proof.Machine.execSvcGrenz f s
  | .imgBegin f => Sys2Proof.Machine.execImgBegin f s
  | .imgData f written => Sys2Proof.Machine.execImgData f s written
  | .imgEnd f written fails => Sys2Proof.Machine.execImgEnd f s written fails
  | .imgAbort f => Sys2Proof.Machine.execImgAbort f s
  | .svcTransferSilence => Sys2Proof.Machine.execSvcTransferSilence s
  | .svcIdleDiscard => Sys2Proof.Machine.execSvcIdleDiscard s
  | .stateRequestPark r => Sys2Proof.Machine.execStateRequestPark r s
  | .stateRequestStandby r => Sys2Proof.Machine.execStateRequestStandby r s
  | .stateRequestReady r => Sys2Proof.Machine.execStateRequestReady r s
  | .stateRequestLit r => Sys2Proof.Machine.execStateRequestLit r s
  | .stateRequestService r => Sys2Proof.Machine.execStateRequestService r s
  | .stateTransitionDone => Sys2Proof.Machine.execStateTransitionDone s
  | .persistStore r => Sys2Proof.Machine.execPersistStore r s
  | .restoreDefaults r => Sys2Proof.Machine.execRestoreDefaults r s
  | .persistCommitDue => Sys2Proof.Machine.execPersistCommitDue s
  | .resetCmd r => Sys2Proof.Machine.execResetCmd r s
  | .dictionaryResetAssert => Sys2Proof.Machine.execDictionaryResetAssert s
  | .capCmdStart r => Sys2Proof.Machine.execCapCmdStart r s
  | .injTarget r value => Sys2Proof.Machine.execInjTarget r value s
  | .updateActivate r => Sys2Proof.Machine.execUpdateActivate r s
  | .updateActivateCold r => Sys2Proof.Machine.execUpdateActivateCold r s
  | .updateDiscard r => Sys2Proof.Machine.execUpdateDiscard r s
  | .bankLoadDone load => Sys2Proof.Machine.execBankLoadDone load s
  | .handoverResume verdict => Sys2Proof.Machine.execHandoverResume verdict s
  | .rallyRevert reread => Sys2Proof.Machine.execRallyRevert s reread
  | .probationEnd => Sys2Proof.Machine.execProbationEnd s
  | .eventClear r value => Sys2Proof.Machine.execEventClear r value s
  | .logClear r => Sys2Proof.Machine.execLogClear r s
  | .faultAck r => Sys2Proof.Machine.execFaultAck r s
  | .zoneFaultClear r zone => Sys2Proof.Machine.execZoneFaultClear r zone s
  | .compatEnable r value => Sys2Proof.Machine.execCompatEnable r value s
  | .ph16kMode r value => Sys2Proof.Machine.execPh16kMode r value s
  | .ph16kMap r offset data => Sys2Proof.Machine.execPh16kMap r offset data s
  | .commitStage r data => Sys2Proof.Machine.execCommitStage r data s
  | .auxEnable r value => Sys2Proof.Machine.execAuxEnable r value s
  | .reflexEnable r value => Sys2Proof.Machine.execReflexEnable r value s
  | .gainSource r value => Sys2Proof.Machine.execGainSource r value s
  | .senseIntervalCyc r value => Sys2Proof.Machine.execSenseIntervalCyc r value s
  | .zoneBlankMask r offset data => Sys2Proof.Machine.execZoneBlankMask r offset data s
  | .logRecords r => Sys2Proof.Machine.execLogRecords r s
  | .hostAbsentReadyTimeout => Sys2Proof.Machine.execHostAbsentReadyTimeout s
  | .parkIdleTimeout => Sys2Proof.Machine.execParkIdleTimeout s
  | .sleepGo fired levels => Sys2Proof.Machine.execSleepGo fired s levels
  | .wakeSource fired levels => Sys2Proof.Machine.execWakeSource fired s levels
  | .wakeAlarm => Sys2Proof.Machine.execWakeAlarm s
  | .parkResume reread => Sys2Proof.Machine.execParkResume s reread
  | .domainIdleTimeout d => Sys2Proof.Machine.execDomainIdleTimeout d s
  | .logWrite => Sys2Proof.Machine.execLogWrite s
  | .auxFrameStart => Sys2Proof.Machine.execAuxFrameStart s
  | .auxLineSlot line failing => Sys2Proof.Machine.execAuxLineSlot line failing s
  | .auxShiftDone returned => Sys2Proof.Machine.execAuxShiftDone returned s
  | .auxBlankRise => Sys2Proof.Machine.execAuxBlankRise s
  | .auxLatch => Sys2Proof.Machine.execAuxLatch s
  | .supervisorLimpAttempt => Sys2Proof.Machine.execSupervisorLimpAttempt s
  | .vinDeratingChange vinMv => Sys2Proof.Machine.execVinDeratingChange vinMv s
  | .campionImageLoadDone reread => Sys2Proof.Machine.execCampionImageLoadDone s reread
  | .handoverQuiesce => Sys2Proof.Machine.execHandoverQuiesce s
  | .coldActivationResume reread => Sys2Proof.Machine.execColdActivationResume s reread
  | .slowCrystalChangeover => Sys2Proof.Machine.execSlowCrystalChangeover s
  | .resetNRelease straps => Sys2Proof.Machine.execResetNRelease straps s
  | .wakeRelockDone ok => Sys2Proof.Machine.execWakeRelockDone ok s

end Sys2Proof.Machine
end

