-- ==== Sys2Proof/Machine/Tap.lean ====
section
/-! DEFINITION. The IEEE 1149.1 test access port with BYPASS, SAMPLE/PRELOAD, EXTEST and IDCODE (Tables 0-3, 19-4 and 22-1). The steps of its
controller are those of the standard (PRESUMED, log 51); the codes and lengths of its registers are Config's. It operates independently of
functional reset. -/

namespace Sys2Proof.Machine

open Sys2Proof

/-- The next state of the controller at a rising edge of TCK, by TMS. -/
def TapState.next (c : TapState) (tms : Bool) : TapState :=
  match c with
  | .testLogicReset => if tms then .testLogicReset else .runTestIdle
  | .runTestIdle => if tms then .selectDr else .runTestIdle
  | .selectDr => if tms then .selectIr else .captureDr
  | .captureDr => if tms then .exit1Dr else .shiftDr
  | .shiftDr => if tms then .exit1Dr else .shiftDr
  | .exit1Dr => if tms then .updateDr else .pauseDr
  | .pauseDr => if tms then .exit2Dr else .pauseDr
  | .exit2Dr => if tms then .updateDr else .shiftDr
  | .updateDr => if tms then .selectDr else .runTestIdle
  | .selectIr => if tms then .testLogicReset else .captureIr
  | .captureIr => if tms then .exit1Ir else .shiftIr
  | .shiftIr => if tms then .exit1Ir else .shiftIr
  | .exit1Ir => if tms then .updateIr else .pauseIr
  | .pauseIr => if tms then .exit2Ir else .pauseIr
  | .exit2Ir => if tms then .updateIr else .shiftIr
  | .updateIr => if tms then .selectDr else .runTestIdle

/-- The instruction that an instruction register's content names: all ones names BYPASS, and the other codes are Config's. -/
def tapInstr (ir : List Bool) : TapInstr :=
  if ir.all id then .bypass
  else match Config.tapOpcode ir with
  | 0 => .bypass | 1 => .samplePreload | 2 => .extest | _ => .idcode

/-- What the instruction register captures: its two bits nearest TDO are 01. -/
def irCaptured : List Bool := true :: false :: Config.irCapture

/-- The bits of the identification code as they leave at TDO: bit 0 is 1. -/
def idcodeBits : List Bool := true :: (List.range 31).map fun k => Config.idcode.getLsbD (k + 1)

/-- What the data register of the instruction in force captures; the pins' levels by the number of the draw. -/
def Tap.capture (t : Tap) (draw : Nat) : List Bool :=
  match t.instr with
  | .bypass => [false]
  | .idcode => idcodeBits
  | _ => Config.boundary draw

/-- A rising edge of TCK: the registers capture and shift in the states of those names, and the controller moves by TMS. -/
def Tap.rise (t : Tap) (draw : Nat) (tms tdi : Bool) : Tap :=
  let u : Tap := match t.ctl with
    | .captureDr => { t with dr := t.capture draw }
    | .shiftDr => { t with dr := t.dr.drop 1 ++ [tdi] }
    | .captureIr => { t with ir := irCaptured }
    | .shiftIr => { t with ir := t.ir.drop 1 ++ [tdi] }
    | _ => t
  { u with ctl := t.ctl.next tms }

/-- A falling edge of TCK: in the Update states what was shifted takes force, in the Shift states TDO is driven with the next bit and in no
other, and in Test-Logic-Reset IDCODE is in force. -/
def Tap.fall (t : Tap) : Tap :=
  match t.ctl with
  | .shiftDr => { t with tdo := t.dr.head? }
  | .shiftIr => { t with tdo := t.ir.head? }
  | .updateDr => { t with latch := if t.instr = .samplePreload ∨ t.instr = .extest then t.dr else t.latch, tdo := none }
  | .updateIr => { t with instr := tapInstr t.ir, tdo := none }
  | .testLogicReset => { t with instr := .idcode, tdo := none }
  | _ => { t with tdo := none }

/-- Test-Logic-Reset: IDCODE is in force. -/
def Tap.restart (t : Tap) : Tap := { t with ctl := .testLogicReset, instr := .idcode, tdo := none }

/-- One happening on the test pins. While TRST_N is low the port is held in Test-Logic-Reset (Table 22-1). -/
def Tap.edge (t : Tap) (draw : Nat) (e : TapEdge) : Tap :=
  match e with
  | .trst low => if low then { t.restart with trstLow := true } else { t with trstLow := false }
  | .tckRise tms tdi => if t.trstLow then t else t.rise draw tms tdi
  | .tckFall => if t.trstLow then t else t.fall

/-- What waits on the test pins has its effect. -/
def State.runTap (s : State) : State :=
  s.tap.edges.foldl (fun s e => { s with tap := s.tap.edge s.free e, free := s.free + 1 }) { s with tap := { s.tap with edges := [] } }

/-- The bits that drive the boundary in place of the module under EXTEST. -/
def State.extestBits (s : State) : Option (List Bool) := if s.tap.instr = .extest then some s.tap.latch else none

end Sys2Proof.Machine
end

