-- ==== Sys2Proof/Machine/Tick.lean ====
section
/-! DEFINITION. The passing of time: TSTAMP and the 32.768 kHz count (R342, R343, R350), and what the pins have brought that no command
names: the test pins, and character errors of the Vexlink lanes (R239). -/

namespace Sys2Proof.Machine

/-- The character errors that the lanes have brought since they were last taken are counted while the receiver is UP (R239), and are gone. -/
def State.takeCharErrors (s : State) : State :=
  let s1 := s.onVex fun v => { v with charErrors := [] }
  if s.pwr.link && s.vex.rx == .up then s.vex.charErrors.foldl (fun s l => s.countCharError l.val) s1 else s1

/-- One microsecond passes. What waits on the test pins has its effect (log 51), and the character errors that wait are counted (log 26).
TSTAMP advances while REFCLK runs (R342, R350); the slow count advances by 32,768 in 1,000,000 us (R343). DESIGN CHOICE, log 1: this is what
the block does on an empty queue. -/
def tick (s : State) : State :=
  let s := s.runTap.takeCharErrors
  let acc := s.pwr.slowAcc + 32768
  { s with pwr := { s.pwr with
      tstamp := if s.pwr.refclk then (s.pwr.tstamp + 1) % 2 ^ 64 else s.pwr.tstamp,
      slow := s.pwr.slow + acc / 1000000,
      slowAcc := acc % 1000000 } }

end Sys2Proof.Machine
end

