-- ==== Sys2Proof/Machine/Domains.lean ====
section
/-! DEFINITION. What the power state gives beside the domains themselves: the rails (R348), the clocks (R350), the isolation clamps
(R358), the SRAM modes (R359) and the levels of the output pins (R374). Each is read off State; none is a state of its own. -/

namespace Sys2Proof.Machine

open Sys2Proof

/-! ### Rails and clocks (R348, R350) -/

/-- The rails of Table 18-1. -/
inductive Rail where
  | vaon | vcore | vsram | vser | vio | vled
  deriving DecidableEq, Repr

/-- Whether MGMT is powered: everywhere but in PARK (R349). In reset and in boot it is as in STANDBY (log 49). -/
def State.mgmtPowered (s : State) : Bool := s.pwr.life != .parked


/-- The voltage of a rail in mV, 0 where it is not present (Table 18-1); of VLED its target. -/
def State.railMv (s : State) : Rail → Nat
  | .vaon => 900
  | .vcore => if s.mgmtPowered then 750 else 0
  | .vsram => if s.mgmtPowered then 800 else if s.flag K.parkRetain then 620 else 0
  | .vser => if s.pwr.link then 1000 else 0
  | .vio => if s.mgmtPowered then 1800 else 0
  | .vled => if s.pwr.emit && s.sup.vledOn then s.sup.vset else 0

/-- Whether the CORE and PIXCLK generators run: in READY and above (R350), and for COMP or SCAN woken in STANDBY, whose clocks start as it
powers up (R356; log 49). -/
def State.generatorsRun (s : State) : Bool :=
  s.up && (s.pwr.dev != .standby && s.pwr.dev != .park || s.pwr.comp || s.pwr.scan)

/-! ### Isolation clamps (R358) -/

/-- The clamped signals of Table 18-4, and each further signal that crosses a boundary, by its source domain (none for MGMT), whether it is
active-high, and a number. -/
inductive Clamp where
  | pixelEnable | zoneClose | phaseOn | vledOk | rowComplete | statisticsValid | packetValid | vxoLanes | columnSinks | lineGates
  | auxLat | auxBlank | auxSck | txd | stbN | health | faultN | sleepCommand
  | shadowStrobe | zoneCurrentValid | creditIncrement | alarmWrite
  | other (source : Option Domain) (activeHigh : Bool) (number : Nat)
  deriving DecidableEq, Repr

/-- What a clamp holds its signal at: 0, 1, or the safe condition that Table 18-4 names. -/
inductive ClampValue where
  | zero | one | open_ | off | electricalIdle | released
  deriving DecidableEq, Repr

/-- The domain that drives a clamped signal, none for MGMT. -/
def Clamp.source : Clamp → Option Domain
  | .pixelEnable | .shadowStrobe | .zoneClose => some .scan
  | .phaseOn | .vledOk | .zoneCurrentValid => some .emit
  | .rowComplete | .statisticsValid => some .comp
  | .packetValid | .creditIncrement | .vxoLanes => some .link
  | .columnSinks | .lineGates | .auxLat | .auxBlank | .auxSck => some .aux
  | .txd | .stbN | .health | .faultN | .sleepCommand | .alarmWrite => none
  | .other d _ _ => d

/-- The value of Table 18-4; an unlisted signal is clamped to its inactive value (R358). An alarm write held at 0 writes nothing. -/
def Clamp.value : Clamp → ClampValue
  | .pixelEnable | .vledOk | .rowComplete | .statisticsValid | .packetValid | .auxLat | .auxSck | .stbN | .health | .sleepCommand
  | .shadowStrobe | .zoneCurrentValid | .creditIncrement | .alarmWrite => .zero
  | .other _ high _ => if high then .zero else .one
  | .zoneClose => .open_
  | .phaseOn | .columnSinks => .off
  | .vxoLanes => .electricalIdle
  | .lineGates | .auxBlank | .txd => .one
  | .faultN => .released

/-- Whether a domain is powered and out of reset; none is MGMT. -/
def State.domainRuns (s : State) (d : Option Domain) : Bool :=
  match d with
  | some d => s.powered d
  | none => s.mgmtPowered && s.pwr.life != .inReset

/-- The value at which a signal is clamped, none while its source domain is powered and out of reset (R358). -/
def State.clampOf (s : State) (c : Clamp) : Option ClampValue := if s.domainRuns c.source then none else some c.value

/-- Whether a domain's clamps hold once some of the steps of a sequence have been taken, where they held `was` before it (R356, R358). -/
def clampsAfter (was : Bool) (steps : List PowerStep) : Bool :=
  steps.foldl (fun c x => match x with
    | .clampsSet => true
    | .clampsReleased => false
    | _ => c) was

/-- Whether a domain's switch is closed once some of the steps of a sequence have been taken, where it was `was` before it (R356). -/
def switchAfter (was : Bool) (steps : List PowerStep) : Bool :=
  steps.foldl (fun c x => match x with
    | .switchClosed => true
    | .switchOpened => false
    | _ => c) was

/-- Whether a domain's clamps hold after the first `k` steps of its latest power-up or power-down: from before its power drops until after its
power-up completes (R358). With no such sequence since reset they hold as they do now. -/
def State.clampsDuring (s : State) (d : Option Domain) (k : Nat) : Bool :=
  match s.pwr.steps.find? fun e => decide (e.1 = d) with
  | some e => clampsAfter (!e.2.contains .clampsSet) (e.2.take k)
  | none => !s.domainRuns d

/-! ### SRAM modes (R359) -/

/-- The modes of Table 18-5. -/
inductive SramMode where
  | active | lightSleep | retention | off
  deriving DecidableEq, Repr

/-- The regions of Table 18-6. -/
inductive SramRegion where
  | frameStore | calStore | surfaceMemory | yarrowBanks | buffers
  deriving DecidableEq, Repr

/-- The modes that a region can be in now (Table 18-6); in a COMP woken on demand its SRAM has been raised to ACTIVE (R356); which of ACTIVE and LIGHT_SLEEP is timing (R360). -/
def State.sramModes (s : State) (r : SramRegion) : List SramMode :=
  if !s.mgmtPowered then
    if r = .surfaceMemory ∧ s.flag K.parkRetain then [.retention] else [.off]
  else if s.pwr.life != .running || s.pwr.dev == .standby || s.ctrlDark then
    match r with
    | .frameStore => if s.pwr.comp then [.active] else [.off]
    | .calStore | .surfaceMemory => if s.pwr.comp then [.active] else [.retention]
    | .yarrowBanks => [.active]
    | .buffers => [.off]
  else if r = .yarrowBanks then [.active]
  else [.active, .lightSleep]

/-- Whether a mode keeps the content of its array (Table 18-5). -/
def SramMode.keeps (m : SramMode) : Bool := m != .off

/-! ### Output pins (R226, R241, R284, R374, R400 to R404) -/

/-- What the receivers of the VXI lanes and of the service port do (Table 19-4). -/
inductive Receivers where
  | off | squelch | on
  deriving DecidableEq, Repr

/-- The module's pins (Tables 19-4 and 22-1): outputs by their levels, inputs by whether they are read. `vxoIdle`: the VXO lanes 0 to 3 in
electrical idle. `driven`: without VIN nothing is.
`extest`: the bits that drive the boundary under EXTEST in place of these levels. -/
structure PinLevels where
  driven        : Bool
  vxoIdle       : List Bool
  vxiTerminated : Bool
  vxiReceivers  : Receivers
  txdHigh       : Bool
  stbHigh       : Bool
  health        : Nat
  faultNLow     : Bool
  lightOnRead   : Bool
  limpNRead     : Bool
  sinks         : List Nat
  gateLow       : Option Nat
  auxLat        : Bool
  auxSck        : Bool
  auxSdo        : Bool
  auxBlank      : Bool
  svcReceiver   : Bool
  svcDriver     : Bool
  dark          : Bool
  tap           : Bool
  extest        : Option (List Bool)
  deriving DecidableEq, Repr

/-- The levels in reset: nothing is driven to light and nothing is asserted; LIMP_N is sampled in AON; the VXI receivers are off. -/
def PinLevels.idle : PinLevels :=
  ⟨true, List.replicate 4 true, true, .off, true, false, 0, false, false, true, [], none, false, false, false, true, true, false, true, true, none⟩

/-- The levels in boot, before STANDBY: as in reset, with the squelch of the VXI lanes on. -/
def PinLevels.booting : PinLevels := { PinLevels.idle with vxiReceivers := .squelch }

/-- The pins of an unpowered module: undriven, unterminated, dark. -/
def PinLevels.unpowered : PinLevels :=
  { PinLevels.idle with driven := false, vxiTerminated := false, limpNRead := false, svcReceiver := false, tap := false }

/-- The VXO lanes in electrical idle: all of them outside L0, and in L0 those beyond the active width, which stay in L2 (R226, R241). -/
def State.vxoIdle (s : State) : List Bool :=
  (upTo 4).map fun l => !s.pwr.link || s.vex.txLane != .l0 || decide (s.vxLanes ≤ l)

/-- The pins with VIN applied or not (`vin`): before STANDBY as Table 19-4 says; then as the domains drive them, or their clamps hold them
(R358). TXD, AUX_SCK, AUX_SDO and AUX_LAT at the level between frames and shifts; the driver of the service port is on only while it answers. -/
def State.pinLevels (s : State) (vin : Bool) : PinLevels :=
  if !vin then PinLevels.unpowered
  else
    let p : PinLevels := match s.pwr.life with
      | .inReset => PinLevels.idle
      | .booting | .loader => PinLevels.booting
      | .parked => { PinLevels.idle with vxiReceivers := .squelch, lightOnRead := true }
      | .running =>
        { PinLevels.idle with
          vxoIdle := s.vxoIdle
          vxiReceivers := if s.pwr.link && s.vex.rxLane == .l0 then .on else .squelch
          stbHigh := s.pwr.stbHigh, health := s.pwr.health, faultNLow := s.flt.faultN, lightOnRead := true
          sinks := if s.pwr.aux then s.aux.onTimes else [], gateLow := if s.pwr.aux then s.aux.line else none
          auxBlank := !s.pwr.aux || s.aux.blankHigh, dark := !s.sup.vledOn || !s.lighting && s.pwr.dev != .service }
    { p with extest := s.extestBits }

end Sys2Proof.Machine
end

