-- ==== Sys2Proof/Machine/Emission.lean ====
section
/-! DEFINITION. The light of one pixel: its cell's mode (Table 2-1, Table 7-2), when it conducts (R27), and for how many PIXCLK periods
of its zone's cycle, in a cycle that straddles a swap and in a stretched cycle (R26 to R30). -/

namespace Sys2Proof.Machine

open Sys2Proof

/-- The code in a pixel's active latch; a row that no swap has filled since reset holds zeros (R23, R25). -/
def State.activeCode (s : State) (x y : Nat) : Nat := ((kvGet s.tim.active y).getD []).getD x 0

/-- Whether pixel (x, y) is a probe of pattern `p` (R132). -/
def isProbe (p x y : Nat) : Bool := x % 8 == p % 8 && y % 8 == p / 8

/-- Whether pixel (x, y) is an orthogonal neighbour of a probe of pattern `p` (R133). -/
def isNeighbour (p x y : Nat) : Bool :=
  (y % 8 == p / 8 && ((x + 1) % 8 == p % 8 && decide (x + 1 < 2048) || x % 8 == (p % 8 + 1) % 8 && decide (0 < x))) ||
    (x % 8 == p % 8 && ((y + 1) % 8 == p / 8 && decide (y + 1 < 512) || y % 8 == (p / 8 + 1) % 8 && decide (0 < y)))

/-- The mode of a cell in the probe half of a sense cycle, `t` us after its start: the neighbours in SENSE_NB; the probes that are
pulsed in PROBE from 12 us to 52 us; every other cell in DARK (Table 7-2, R134). A probe is pulsed while its zone's switch is
closed and its zone's ADC is not faulty. -/
def State.probeHalfMode (s : State) (x y t : Nat) : CellMode :=
  let z := zoneOf x y
  if isNeighbour s.sense.pattern x y then .senseNb
  else if isProbe s.sense.pattern x y && decide (12 ≤ t) && decide (t < 52) && (s.zone z).closed && !s.sense.adcFaulty.contains z then
    .probe
  else .dark

/-- The mode of the cell of pixel (x, y) now (R24): DARK under any reset source (R25). From SENSE_PROBE_DONE to 102.4 us, where every cell
enters SENSE_ROAD, the modes of the probe half go on (Table 7-2). -/
def State.cellMode (s : State) (x y : Nat) : CellMode :=
  let t := s.now - s.sense.started_at
  if s.pwr.life == .inReset then .dark
  else match s.sense.cells with
    | .emit => .emit
    | .dark => .dark
    | .probe => s.probeHalfMode x y t
    | .road => if t ≤ 102 then s.probeHalfMode x y t else .senseRoad

/-- Whether pixel (x, y) conducts at a PIXCLK period of the global cycle, for its code (R27): CNT_z below the code in its active
latch, its zone's switch closed, and the cycle no sense cycle. -/
def State.conducts (s : State) (x y count : Nat) : Bool :=
  let z := s.zone (zoneOf x y)
  s.cellMode x y == .emit && !s.sense.inCycle && z.closed && decide (z.counter count < s.activeCode x y)

/-- A pixel's current in nA at a PIXCLK period: its zone's full-scale current while it conducts or is pulsed, else none (R27, R31,
R134). `iref` is its zone's IREF. -/
def State.pixelCurrent (s : State) (x y count iref : Nat) : Nat :=
  if s.conducts x y count || s.cellMode x y == .probe then 4000 + 500 * iref else 0

/-- CNT_z of a zone in slot `slot` at a swap (R27): k = 4096 - o_z, and 0 for offset 0. -/
def swapCount (slot : Nat) : Nat := (4096 - offsetOf slot) % 4096

/-- The periods for which the zone cycle that straddles a swap conducts: T = min(C_old, k) + max(0, C_new - k) (R27). -/
def transitionPeriods (old new k : Nat) : Nat := min old k + (new - k)

/-- The periods below `n` of a zone's counter at which a comparison with a code conducts; the code in force is `old` below `k`, and
`new` from there on (R27). -/
def conductingPeriods (old new k n : Nat) : Nat :=
  (upTo n).countP fun c => decide (c < if c < k then old else new)

end Sys2Proof.Machine
end

