-- ==== Sys2Proof/Safety.lean ====
section
/-! DEFINITION. What counts as a safe state and a safe step, and the frames of the commands, in the terms the claims use. -/

namespace Sys2Proof

open Sys2Proof.Machine

/-! ### Safe states -/

/-- The four byte memories are in canonical form: surface memory, both frame store banks, and the calibration store. -/
abbrev Safety.memoriesWf (s : State) : Prop :=
  memWf s.surf.mem ∧ memWf s.tim.bank0 ∧ memWf s.tim.bank1 ∧ memWf s.chk.cal

/-- The emitter is dark by its switches: every zone's anode switch is open (R33, R369). -/
abbrev Safety.allOpen (s : State) : Prop := ∀ z ∈ s.zones, z.closed = false

/-- ROLLBACK_COUNTER, one-time-programmable: at least `n` and no more than 255 (R383). -/
abbrev Safety.rollbackWithin (n : Nat) (s : State) : Prop := n ≤ s.flash.rollback ∧ s.flash.rollback ≤ 255

/-- What a whole-module reset leaves of flash (R281, R314, R369, R377): everything but the writes in progress and pending; the CAN address, the
count of unlocks and the severities of events as the copies of their records have them. -/
abbrev Safety.flashAtReset (s : State) : Flash :=
  { s.flash with
    due := [], aDone := [], failedOnce := [], storing := [], fbNew := [], canAddrLast := s.flash.addrLast.value
    unlockCount := s.flash.unlocks.value.getD 0, severities := s.flash.severityRecs.value.getD [] }

/-- The criteria of FAILED that survive into a boot do not hold, and the defect map in flash brings none (R210). -/
abbrev Safety.bootsHealthy (s : State) : Prop :=
  s.sup.feSecond = false ∧ 2 < s.nOk ∧ (s.zones.filter fun z => z.degraded).length ≤ 16 ∧
    ∃ l, s.flash.defects.value = some l ∧ ∀ e ∈ l, e.2 < 2

/-- Firmware runs above PARK, and no hand-over is in progress. -/
abbrev Safety.serving (s : State) : Prop := s.pwr.life = .running ∧ s.pwr.dev ≠ .park ∧ s.rally.phase ≠ .handover

/-- MOD_HEALTH is not FAILED, and no criterion of FAILED holds (R210). -/
abbrev Safety.notFailed (s : State) : Prop := s.flt.health ≠ 2 ∧ s.healthBits.all (fun b => decide (6 ≤ b)) = true

/-- No write to a surface is held, or waits for room in the write queue (R99). -/
abbrev Safety.nothingHeld (s : State) : Prop :=
  s.surf.queue = [] ∧ s.surf.waiting = []

/-- A cause engages the fallback beam at once (R214, R218): firmware runs in READY, LIT or STANDBY outside a hand-over, an image is there,
MOD_HEALTH is not FAILED, and no cause of SAFE_DARK is left behind in STANDBY. -/
abbrev Safety.engages (s : State) : Prop :=
  s.up = true ∧ (s.pwr.dev = .ready ∨ s.pwr.dev = .lit ∨ (s.pwr.dev = .standby ∧ s.pwr.dark = [])) ∧
    s.rally.phase ≠ .handover ∧ s.selectImage ≠ none ∧ Safety.notFailed s ∧ Safety.nothingHeld s

/-- The fallback beam has engaged with a cause (R215, R218): DEV_STATE reads FALLBACK, the compositor is held in reset, EV085 has been
raised and a render has begun. -/
abbrev Safety.engaged (s t : State) (c : FbCause) : Prop :=
  t.pwr.dev = .fallback ∧ t.pwr.trans = none ∧ c ∈ t.flt.fbCauses ∧ t.comp.inReset = true ∧ t.flt.renderOn = true ∧
    kvGet t.mgmt.evCounts 85 = some (inc32 ((kvGet s.mgmt.evCounts 85).getD 0) 1) ∧
    (∃ f, t.tim.work = some f ∧ f.kind = .fallback ∧ f.stage = .statistics ∧ f.tag = s.tim.displayedTag) ∧
    (s.pwr.scan = true → t.tim.disp = s.tim.disp ∧ t.tim.active = s.tim.active) ∧ t.pwr.dark = s.pwr.dark

/-- The composition of `s` with frame `f` restarts for a tile lost at both looks (R86, R109): EV018 names it, its surface is marked, and the
pass begins again with the same commit, tag and binding. -/
abbrev Safety.restartedFor (s t : State) (f : Frame) (e : Nat × Nat × Nat) : Prop :=
  (∃ g, t.tim.work = some g ∧ g.stage = .statistics ∧ g.tag = f.tag ∧ g.commit = f.commit ∧ g.kind = f.kind ∧ g.binds = f.binds ∧
    g.rowsDone = 0) ∧
  kvGet t.mgmt.evCounts 18 = some (inc32 ((kvGet s.mgmt.evCounts 18).getD 0) 1) ∧
  t.surf = { s.surf with surf := s.surf.surf.modify e.2.1 fun u => { u with decodeFault := true, decodeTile := e.2.2 } } ∧
  t.zones = s.zones ∧ t.tim.active = s.tim.active ∧ t.tim.disp = s.tim.disp ∧ t.tim.pend = s.tim.pend ∧
  t.tim.bank0 = s.tim.bank0 ∧ t.tim.bank1 = s.tim.bank1

/-! ### Frames: what may differ -/

/-- `t` differs from `s` at most in what the report of events and of records touches (R335 to R345, R179, R197, R211): the event controller,
the queues of its routes, FAULT_N, the TRANSIENT counts and storms, an injection that an event of severity 2 or more ends, and the count of
free values drawn. -/
def Safety.reported (s t : State) : Prop :=
  t = { s with
    mgmt := { s.mgmt with
      latched := t.mgmt.latched, evSeq := t.mgmt.evSeq, evCounts := t.mgmt.evCounts, evLast := t.mgmt.evLast, lastSev := t.mgmt.lastSev,
      logQueue := t.mgmt.logQueue, logDropped := t.mgmt.logDropped, dropsToNote := t.mgmt.dropsToNote,
      reconstructed := t.mgmt.reconstructed }
    can := { s.can with evQueue := t.can.evQueue, evSince := t.can.evSince, evLost := t.can.evLost }
    vex := { s.vex with
      own := t.vex.own, evSince := t.vex.evSince, evDropped := t.vex.evDropped, canOnlyLost := t.vex.canOnlyLost }
    flt := { s.flt with
      faultN := t.flt.faultN, faultAcked := t.flt.faultAcked, counts := t.flt.counts, recent := t.flt.recent, storms := t.flt.storms }
    sup := { s.sup with
      capRunning := t.sup.capRunning, capState := t.sup.capState, capture := t.sup.capture, injecting := t.sup.injecting,
      injArmed := t.sup.injArmed, injU := t.sup.injU }
    free := t.free }

/-- `t` differs from `s` at most in what the answer to a Grenz request or to a packet touches (R262, R264, R289 to R292, R379, R380): the
frames sent, the answers kept for a repeat, and the own packets queued. -/
def Safety.answered (s t : State) : Prop :=
  t = { s with
    can := { s.can with answered := t.can.answered, out := t.can.out, svcResp := t.can.svcResp }
    vex := { s.vex with own := t.vex.own, answers := t.vex.answers }
    rally := { s.rally with svcLast := t.rally.svcLast } }

/-- `t` differs from `s` at most in what reports and answers together touch. -/
def Safety.told (s t : State) : Prop := ∃ u, Safety.reported s u ∧ Safety.answered u t

/-- An event was raised once between `s` and `t`: its EV_COUNT is one higher (R335). -/
def Safety.raised (s t : State) (ev : Nat) : Prop :=
  kvGet t.mgmt.evCounts ev = some (inc32 ((kvGet s.mgmt.evCounts ev).getD 0) 1)

/-! ### Requests (R290 to R292, R301, R304, R311) -/

/-- A request reaches the module and is carried out: MGMT is up, no hand-over runs, it is no repeat, no other request of its channel is in
progress, and its class allows it at the level in force. -/
def Safety.taken (s : State) (m : GrenzMsg) : Prop :=
  s.reaches m.req = true ∧ s.rally.phase ≠ .handover ∧ s.storedAnswer m = none ∧ s.inProgress m.req = false ∧
    opAllowed m.req m.op = true ∧ s.classLevelLow m = false

/-- A WRITE of an object as a message. -/
def Safety.writeMsg (r : Req) (index sub : Nat) (data : List Byte) : GrenzMsg := ⟨r, 0x02, index, sub, 0, data⟩

/-- A WRITE of `n` bytes to a scalar object by its key. -/
def Safety.order (r : Req) (key n v : Nat) : GrenzMsg := Safety.writeMsg r (key / 256) (key % 256) (leBytes n v)

/-- A WRITE is taken and passes every check of R311 at the level of its transport. -/
def Safety.accepts (s : State) (m : GrenzMsg) : Prop :=
  Safety.taken s m ∧ s.writeError (s.access m.req.via).level m.index m.sub 0 m.data false = none

/-- A command is an accepted request whose effect leaves `u`, and which is answered with its OP with bit 7 set. -/
def Safety.orderDone (c : Instr) (s : State) (m : GrenzMsg) (u : State) : Prop :=
  ∃ t, exec c s = .next t ∧ Safety.answered u t ∧ t.can.answered.getLast? = some (m, ⟨m.op + 0x80, 0, []⟩, u.now)

/-- A transfer's frame reaches the module, its class allows it at the level in force, and it belongs to the transfer in progress (R294,
R295, R304). -/
def Safety.frameOf (s : State) (r : Req) (op : Nat) (t : Transfer) : Prop :=
  s.reaches r = true ∧ s.rally.phase ≠ .handover ∧ opAllowed r op = true ∧ s.classLevelLow ⟨r, op, 0, 0, 0, []⟩ = false ∧
    s.can.transfer = some t ∧ t.owns r = true

/-- A packet of a type is consumed by this module: it is received, addressed to it, passes its check at its first look, is no duplicate, and
finds room in the receive buffer (R251, R267 to R269). -/
def Safety.consumes (s : State) (p : VxPacket) (type : Nat) : Prop :=
  s.receiving = true ∧ (parseHeader p.header).type = type ∧ (s.fate p.header = .consume ∨ s.fate p.header = .both) ∧
    s.packetPasses p = true ∧ (parseHeader p.header).retry = false ∧
    s.rxUnits + (if creditedType type then unitsOf (parseHeader p.header).len else 0) ≤ 256

/-- `s` as a consumed packet finds it: its SEQ is in the window and the host has been heard (R220, R269). -/
def Safety.heard (s : State) (p : VxPacket) : State :=
  (s.acceptSeq (parseHeader p.header).bro (parseHeader p.header).seq).hostPacket

/-- An SVC frame of a type is taken: it is whole, for this module, passes its check, and repeats nothing (R378 to R380). -/
def Safety.svcTakes (s : State) (f : SvcFrame) (type : Nat) : Prop :=
  s.up = true ∧ s.rally.svcBuf = [] ∧ SvcFrame.whole f = true ∧ s.svcMine f = true ∧ SvcFrame.type f = type ∧
    SvcFrame.passes f = true ∧ (SvcFrame.retry f = true → s.svcRepeated f = false ∧ s.svcLook f = none)

/-- `s` as a taken SVC frame finds it. -/
def Safety.svcHeard (s : State) (f : SvcFrame) : State :=
  s.onRally fun r => { r with svcSeq := SvcFrame.seq f, svcLast := some (SvcFrame.seq f, none) }

end Sys2Proof
end

