-- ==== Sys2Proof/Certificates/Slice0/Obligations.lean ====
section
/-! DEFINITION. The statements for the provers. -/

open Sys2Proof Sys2Proof.Machine

/-! ### The block as a machine -/

/-- One step with a command at the front of the queue is that command on the state with the rest of the queue. On an empty queue one microsecond passes (the model's choice, log 1): TSTAMP advances by 1 while REFCLK runs (R342), the slow count by
32,768 in 1,000,000 us (R343), what waits on the test pins has its effect on the test access port, in order (R374; presumed, log 51), the
character errors that wait are counted on their lanes while the receiver is UP (R239; that they wait for the microsecond is the model's
choice, log 26) and wait no more, and nothing else changes. -/
def Obligations.StepRunsFrontOrTicks : Prop :=
  (∀ (c : Instr) (rest : List Instr) (s : State), s.pending = c :: rest → step s = exec c { s with pending := rest }) ∧
  ∀ s : State, s.pending = [] →
    let ticked := fun (u : State) => { u with pwr := { s.pwr with
      tstamp := if s.pwr.refclk then (s.pwr.tstamp + 1) % 2 ^ 64 else s.pwr.tstamp
      slow := s.pwr.slow + (s.pwr.slowAcc + 32768) / 1000000
      slowAcc := (s.pwr.slowAcc + 32768) % 1000000 } }
    s.runTap.tap = s.tap.edges.zipIdx.foldl (fun t e => t.edge (s.free + e.2) e.1) { s.tap with edges := [] } ∧ s.runTap.tap.edges = [] ∧
    ∃ lanes, step s = .next (ticked { s with
        tap := s.runTap.tap, free := s.free + s.tap.edges.length, vex := { s.vex with lanes := lanes, charErrors := [] } }) ∧
      (s.pwr.link = false ∨ s.vex.rx ≠ .up → lanes = s.vex.lanes) ∧
      (s.pwr.link = true → s.vex.rx = .up → ∀ (i : Nat) (l : Lane), s.vex.lanes[i]? = some l →
        let n := (s.vex.charErrors.filter fun x => x.val == i).length
        lanes[i]? = some { l with errors := (fun e => inc32 e 1)^[n] l.errors })

/-- Every command goes through in every state: none faults, none is refused, and none touches the queue of waiting commands. -/
def Obligations.CommandsCompleteAndKeepQueue : Prop :=
  ∀ (c : Instr) (s : State), ∃ t, exec c s = .next t ∧ t.pending = s.pending

/-- ROLLBACK_COUNTER never decreases and stays within 255, whatever a step does (R383): for every lower bound `n`, a state that meets it
steps only to states that meet it. -/
def Obligations.RollbackNeverFalls : Prop :=
  ∀ (n : Nat) (s t : State), Safety.rollbackWithin n s → step s = .next t → Safety.rollbackWithin n t

/-- Every step keeps the byte memories in their canonical form: surface memory, both frame store banks, the calibration store. -/
def Obligations.StepKeepsMemoriesCanonical : Prop :=
  ∀ s t : State, Safety.memoriesWf s → step s = .next t → Safety.memoriesWf t

/-- Reset meets the invariants: the memories are canonical, ROLLBACK_COUNTER is within its range, every zone switch is open, and no command
waits. And it holds what the spec's rules give at reset: no ring address, epoch 0 (R265), USER on every transport (R304), FS0 displayed
(R49), frame 0 displayed with a served count of 0 (R51), no code on in the latches, every zone held open for RESET (R35), every host box slot
disabled (R110), VLED off with every phase OFF and healthy (R155, R156), every surface EMPTY until the boot loads surface 0 (R94, R98), no fallback cause (R218), HEALTH low (R212),
FAULT_N released (R211), and TSTAMP 0 (R342). That the empty latches hold code 0 is the model's choice of log 3. -/
def Obligations.ResetMeetsInvariantsAndValues : Prop :=
  let s := State.reset
  (Safety.memoriesWf s ∧ Safety.rollbackWithin 0 s ∧ Safety.allOpen s ∧ s.zones.length = 512 ∧ s.pending = []) ∧
  s.vex.addr = none ∧ s.vex.epoch = 0 ∧ s.mgmt.can.level = .user ∧ s.mgmt.vexlink.level = .user ∧ s.mgmt.svc.level = .user ∧
    s.tim.frameCount = 0 ∧ s.tim.served = 0 ∧ s.tim.fs1Displayed = false ∧ s.tim.active = [] ∧ s.tim.shadow = [] ∧ (∀ z ∈ s.zones, z.closed = false ∧ z.causes = [.reset]) ∧
    (∀ b ∈ s.glare.hostBoxes, b.enable = false) ∧ s.sup.vledOn = false ∧ (∀ p ∈ s.sup.phases, p.on = false ∧ p.healthy = true) ∧
    (∀ n, (s.surface n).phase = .empty) ∧ s.flt.fbCauses = [] ∧ s.pwr.health = 0 ∧ s.flt.faultN = false ∧ s.pwr.tstamp = 0

/-! ### Memories, values and check values -/

/-- A byte memory reads what was written last: inside the bytes written the byte written there, outside them what it read before; a read of
`n` bytes of a canonical memory is its `n` bytes in order; the check value that skips its cells of 0 by powers of the generator is the
CRC32C of its bytes (R272); and a scalar object reads back what is written to it, every other object keeping its value (R310). -/
def Obligations.ValuesReadBack : Prop :=
  (∀ (m : List Host.Cell) (a : Nat) (bs : List Byte) (x : Nat),
    memGet (memWrite m a bs) x = if a ≤ x ∧ x < a + bs.length then bs.getD (x - a) 0 else memGet m x) ∧
  (∀ (m : List Host.Cell) (a n : Nat), memWf m → memRead m a n = (List.range n).map fun i => memGet m (a + i)) ∧
  (∀ (m : List Host.Cell) (a n : Nat), memWf m → n ≤ 16777216 → crc32cMem m a n = crc32c (memRead m a n)) ∧
  (∀ (s : State) (k v j : Nat), (s.putPar k v).par j = if j = k then v else s.par j)

/-- HCRC (R249): a CRC-16 over header bytes 0 to 13 with byte 13 taken as 0, polynomial 0x1021, init 0xFFFF, xorout 0, no reflection, here as
one register bit by bit; HOPS does not enter it, so a header with another HOPS passes the header check as before. -/
def Obligations.HeaderCheckSkipsHops : Prop :=
  ∀ (b : List Byte) (hops : Byte), b.length = 16 →
    headerCrc b = ((b.take 13 ++ [0]).foldl (fun (r : BitVec 16) (x : Byte) =>
      (List.range 8).foldl (fun (r : BitVec 16) (i : Nat) =>
        if r.getMsbD 0 != x.getMsbD i then (r <<< 1) ^^^ 0x1021#16 else r <<< 1) r) 0xFFFF#16).toNat ∧
    headerCrc (b.set 13 hops) = headerCrc b ∧ headerBad (b.set 13 hops) = headerBad b

/-- The default phase table and selection (R29): P[k] is k, SEL_z is (z + z div 32) mod 16; each zone row band holds every slot twice and is
rotated one slot against the band above it; exactly 32 zones use each slot. -/
def Obligations.PhaseSlotsAreSpread : Prop :=
  (∀ k, k < 16 → State.reset.par (0x210101 + k) = k) ∧
  (∀ z, z < 512 → State.reset.slotOf z = (z + z / 32) % 16) ∧
  (∀ band k, band < 16 → k < 16 → ((List.range 32).filter fun i => State.reset.slotOf (32 * band + i) == k).length = 2) ∧
  (∀ z, z < 480 → State.reset.slotOf (z + 32) = (State.reset.slotOf z + 1) % 16) ∧
  (∀ k, k < 16 → ((List.range 512).filter fun z => State.reset.slotOf z == k).length = 32)


/-! ### Resets, boot, the watchdog (chapters 17 and 19) -/

/-- POWER_ON_RESET, BROWN_OUT and RESET_N hold the whole module in reset (R364, R369, R371): every zone switch opens, VLED and every domain are
off, the frame store, surfaces, dictionary and levels are at their reset values, flash and the update slots are kept, TSTAMP is cleared by POR
and brown-out and kept by RESET_N (R342), and the highest cause is recorded. A record that a loss of power tears (R345) is the one thing that
changes in flash.
Logs 3, 4 and 15 name the model's choices in it: values of the frame store and surface memory after reset, and what a reset holds. -/
def Obligations.ResetsDarkenTheModule : Prop :=
  ∀ (s : State) (torn : Bool) (c : Instr) (k : ResetCause),
    (c, k) ∈ [(Instr.powerOnReset torn, ResetCause.por), (.brownOut torn, .brownOut), (.resetN, .resetN)] →
    ∃ t, exec c s = .next t ∧ t.pwr.life = .inReset ∧ k ∈ t.pwr.held ∧
      t.pwr.lastReset = (if s.pwr.life = .inReset then higherCause s.pwr.lastReset k else k) ∧
      Safety.allOpen t ∧ t.sup.vledOn = false ∧
      t.pwr.comp = false ∧ t.pwr.scan = false ∧ t.pwr.emit = false ∧ t.pwr.link = false ∧ t.pwr.aux = false ∧
      t.tim = Timing.reset ∧ t.surf = SurfMem.reset ∧ t.dict = Dict.reset ∧ t.mgmt.can.level = .user ∧ t.mgmt.vexlink.level = .user ∧
      t.mgmt.svc.level = .user ∧
      t.flash = Safety.flashAtReset (if k ≠ .resetN ∧ torn = true then s.tearRecord else s) ∧
      t.rally.slotA = s.rally.slotA.reloaded ∧ t.rally.slotB = s.rally.slotB.reloaded ∧
      t.pwr.tstamp = (if k = .resetN then s.pwr.tstamp else 0)

/-- RESET_RELEASE and RESET_N_RELEASE (R364, R371, R372): when the sources named were the last to hold the reset, the straps are sampled, REFCLK
runs, and the boot begins, or the service loader under the BOOT strap; while another source holds, only the list of holding sources changes.
BOOT_COMPLETE (R365, R367, R369, R371, R372): with an image that verifies, the module is in STANDBY with the boot counted once, ROLE noted
and the bank chosen by the boot ROM, whatever records needed their second look; with LIMP_N low the fallback beam then engages (R368). It is
in SAFE_DARK instead only where MOD_HEALTH becomes FAILED (R210). With no image, the service loader runs and nothing else happens.
Logs 15 and 16 name the model's choices in it: which command lets go of which source, and when a boot counts. -/
def Obligations.ResetIsReleasedAndBoots : Prop :=
  (∀ (s : State) (k : Straps) (c : Instr) (gone : ResetCause → Bool),
    (c = .resetRelease k ∧ gone = (fun x => x != .resetN)) ∨ (c = .resetNRelease k ∧ gone = (fun x => x == .resetN)) →
    s.pwr.life = .inReset →
    (s.pwr.held.all gone = true →
      ∃ t, exec c s = .next t ∧ t.pwr.life = (if k.boot then Life.loader else Life.booting) ∧ t.pwr.held = [] ∧ t.pwr.role = k.role.val ∧
        t.pwr.bootStrap = k.boot ∧ t.pwr.refsel = k.refsel ∧ t.pwr.refclk = true ∧ (s.pwr.lastReset.clears = true → t.pwr.tstamp = 0) ∧
        t = { s with pwr := t.pwr, mgmt := { s.mgmt with reconstructed := t.mgmt.reconstructed } }) ∧
    (s.pwr.held.all gone = false →
      exec c s = .next { s with pwr := { s.pwr with held := s.pwr.held.filter fun x => !gone x } })) ∧
  (∀ (s : State) (p : LightPins) (images : StoredImages) (reread : List (RecordId × CopyId)), s.pwr.life = .booting →
    (∀ (b : Bool) (failed : Option Bool), s.bootBank images = some (b, failed) →
      ∃ u, exec (.bootComplete p images reread) s = .next (if p.limpLow then u.engage .limpN else u) ∧ u.pwr.life = .running ∧
        u.flash.bootCount = (if s.mgmt.wdLast = none then inc32 s.flash.bootCount 1 else s.flash.bootCount) ∧
        u.flash.rollback = s.flash.rollback ∧ u.flash.log = s.flash.log ∧
        u.rally.bankB = b ∧ u.mgmt.prevRole = some s.pwr.role ∧ u.pwr.lightOn = p.lightOn ∧ u.pwr.limpLow = p.limpLow ∧
        u.pwr.stbHigh = true ∧
        (s.flt.health = 2 ∨ Safety.bootsHealthy s →
          u.pwr.dev = .standby ∧ u.zones.map Zone.closed = s.zones.map Zone.closed ∧ u.sup.vledOn = s.sup.vledOn) ∧
        (u.pwr.dev = .standby ∨ u.pwr.dev = .safeDark ∧ u.flt.health = 2)) ∧
    (s.bootBank images = none →
      exec (.bootComplete p images reread) s =
        .next { s with pwr := { s.pwr with lightOn := p.lightOn, limpLow := p.limpLow, life := .loader } }))

/-- WATCHDOG_SERVICE inside its window (R334) records the service, and the first of a boot counts it (R371); one outside it, WATCHDOG_EXPIRY and LOCKSTEP_DIFFERENCE reset the module
with cause WATCHDOG while Rally is at rest, and every zone switch opens. A crash in a hand-over or in probation triggers the revert, with
reason TIMEOUT or PROBATION_CRASH and the light as it is (R391, R392); in a probation that came from a whole-module reset it resets the module with the slot
REJECTED (R393).
RESET_CMD is answered, then asks for the reset; with dirty values a commit of PERSIST begins or is asked for again (R314, R370).
DICTIONARY_RESET_ASSERT (R370): the reset that was asked for waits for a commit in progress, then for the commit of dirty values, and is then
asserted with cause DICTIONARY.
Log 16 names the model's choices in it: that a boot counts with the first service, and that the watchdog acts in boot and loader. That a
lockstep difference in a hand-over reverts with TIMEOUT too is the choice of log 19: R391 gives TIMEOUT for a service not made in time. -/
def Obligations.FirmwareResetsTheModule : Prop :=
  (∀ s : State, s.yarrowRuns = true →
    (s.mgmt.wdHeld = true ∨ (s.mgmt.wdLast = none ∧ s.pwr.tstamp ≤ s.pwr.releasedAt + 60000) ∨
        (∃ l, s.mgmt.wdLast = some l ∧ l + 2000 ≤ s.pwr.tstamp ∧ s.pwr.tstamp ≤ l + 20000) →
      exec .watchdogService s = .next { s with
        mgmt := { s.mgmt with wdLast := some s.pwr.tstamp }
        flash := { s.flash with bootCount :=
          if s.pwr.life = .booting ∧ s.mgmt.wdLast = none then inc32 s.flash.bootCount 1 else s.flash.bootCount } }) ∧
    (s.rally.phase ≠ .handover → s.rally.phase ≠ .probation →
      ∀ c : Instr, c = .watchdogExpiry ∨ c = .lockstepDifference ∨
          (c = .watchdogService ∧ s.mgmt.wdHeld = false ∧
            (s.mgmt.wdLast = none ∧ s.pwr.releasedAt + 60000 < s.pwr.tstamp ∨
              ∃ l, s.mgmt.wdLast = some l ∧ (s.pwr.tstamp < l + 2000 ∨ l + 20000 < s.pwr.tstamp))) →
        ∃ t, exec c s = .next t ∧ t.pwr.life = .inReset ∧ t.pwr.lastReset = .watchdog ∧ Safety.allOpen t ∧ t.sup.vledOn = false ∧
          t.mgmt.lockstep = (c == .lockstepDifference) ∧
          t.flash = Safety.flashAtReset (if c = .watchdogService then s.countBoot else s)) ∧
    (s.pwr.held.contains .rallyRevert = false → ∀ c : Instr, c = .watchdogExpiry ∨ c = .lockstepDifference →
      (s.rally.phase = .handover ∨ s.rally.phase = .probation ∧ s.rally.coldReset = false →
        ∃ t, exec c s = .next t ∧ t.rally.phase = .handover ∧ t.rally.reason = (if s.rally.phase = .handover then 5 else 6) ∧
          .rallyRevert ∈ t.pwr.held ∧ t.zones = s.zones ∧ t.sup = s.sup ∧ t.pwr.dev = s.pwr.dev ∧ t.pwr.life = s.pwr.life) ∧
      (s.rally.phase = .probation → s.rally.coldReset = true →
        ∃ t, exec c s = .next t ∧ t.pwr.life = .inReset ∧ t.pwr.lastReset = .watchdog ∧ Safety.allOpen t ∧ t.sup.vledOn = false ∧
          (t.slotOfBank s.rally.bankB).state = .rejected ∧ (12 + b2n s.rally.bankB) ∈ t.flash.due ∧ t.rally.reason = 6))) ∧
  (∀ (s : State) (r : Req), Safety.accepts s (Safety.order r K.resetCmd 1 1) →
    ∃ u t, exec (.resetCmd r) s = .next t ∧ Safety.answered s u ∧
      u.can.answered.getLast? = some (Safety.order r K.resetCmd 1 1, ⟨0x82, 0, []⟩, s.now) ∧
      t.pwr = { s.pwr with resetDue := true } ∧ (s.dict.dirty = [] → t = { u with pwr := t.pwr }) ∧
      (s.dict.dirty ≠ [] → t.dict.committing = true) ∧ t = { u with pwr := t.pwr, dict := t.dict, flash := t.flash } ∧
      t.flash = { s.flash with due := t.flash.due, aDone := t.flash.aDone, failedOnce := t.flash.failedOnce }) ∧
  (∀ s : State,
    (s.pwr.resetDue = false ∨ s.dict.committing = true → exec .dictionaryResetAssert s = .next s) ∧
    (s.pwr.resetDue = true → s.dict.committing = false → s.dict.dirty ≠ [] →
      ∃ t, exec .dictionaryResetAssert s = .next t ∧ t.dict.committing = true ∧ t.pwr = s.pwr ∧ 0 ∈ t.flash.due ∧
        t = { s with dict := t.dict, flash := { s.flash with due := t.flash.due, aDone := t.flash.aDone, failedOnce := t.flash.failedOnce } }) ∧
    (s.pwr.resetDue = true → s.dict.committing = false → s.dict.dirty = [] → s.pwr.life = .running →
      ∃ t, exec .dictionaryResetAssert s = .next t ∧ t.pwr.life = .inReset ∧ t.pwr.lastReset = .dictionary ∧ Safety.allOpen t ∧
        t.flash = Safety.flashAtReset s ∧ t.pwr.tstamp = s.pwr.tstamp))

/-! ### Device states, PARK and wake (chapter 18) -/

/-- STATE_REQUEST PARK, STANDBY, READY, LIT and SERVICE (R351, Table 18-3): an accepted request for another state is answered, and the
transition runs through the states of Table 18-3 while DEV_STATE keeps its value; one for the state in force changes no state. The request
for LIT in FALLBACK, which releases the fallback beam, is left to `FaultsAreReleased`. From LIT the zones open ORDERLY, each with cause
STATE (R33, R155).
HOST_ABSENT_READY_TIMEOUT and PARK_IDLE_TIMEOUT (R353): with no host, no light requested and no SVC session, READY moves to STANDBY and STANDBY
to PARK, with a SYSTEM record and DEV_STATE as it was until the step completes; otherwise nothing happens.
DOMAIN_IDLE_TIMEOUT (R356, R357): a domain woken on demand in STANDBY, or in the controller-shutdown SAFE_DARK, returns to its state's setting, with no event latched but where an
excursion of VLED ends with it (R159); otherwise nothing happens.
SLOW_CRYSTAL_CHANGEOVER only changes the slow clock's source (R343).
The clauses that rest on a reading of the model name it in log 17. -/
def Obligations.TransitionsStart : Prop :=
  (∀ (s : State) (r : Req) (c : Instr) (v : Nat) (d : DevState),
    (c, v, d) ∈ [(Instr.stateRequestPark r, 0, DevState.park), (.stateRequestStandby r, 1, .standby), (.stateRequestReady r, 2, .ready),
      (.stateRequestLit r, 3, .lit), (.stateRequestService r, 4, .service)] →
    Safety.accepts s (Safety.order r K.stateRequest 1 v) → ¬(s.pwr.dev = .fallback ∧ d = .lit) →
    ∃ t, exec c s = .next t ∧ t.pwr.dev = s.pwr.dev ∧
      t.can.answered.getLast? = some (Safety.order r K.stateRequest 1 v, ⟨0x82, 0, []⟩, t.now) ∧
      (s.pwr.dev = d → t.pwr.trans = s.pwr.trans) ∧
      (∀ steps, s.pwr.dev ≠ d → s.path d = some steps → t.pwr.trans = some ⟨steps⟩) ∧
      t.par K.stateRequest = v ∧
      (s.pwr.dev = .lit → d = .ready ∨ d = .standby ∨ d = .park → ∀ z, z < s.zones.length →
        (t.zone z).openAtCycle = (s.zone z).closed ∧ (t.zone z).closed = (s.zone z).closed ∧ .state ∈ (t.zone z).causes)) ∧
  (∀ (s : State) (c : Instr) (a b : DevState),
    (c, a, b) ∈ [(Instr.hostAbsentReadyTimeout, DevState.ready, DevState.standby), (.parkIdleTimeout, .standby, .park)] →
    (s.up = true → s.pwr.dev = a → s.idleHost = true →
      ∃ t, exec c s = .next t ∧ t.pwr.trans = some ⟨[b]⟩ ∧ t.pwr.dev = a ∧ t.dict.committing = true ∧ t.zones = s.zones ∧
        t.tim = s.tim ∧ t.surf = s.surf ∧ t.sup = s.sup ∧ t.glare = s.glare ∧ t.therm = s.therm ∧
        (s.mgmt.logQueue.length < 64 → ∃ b, t.mgmt.logQueue = s.mgmt.logQueue ++ [b] ∧ field b 12 1 = 3)) ∧
    (s.pwr.dev ≠ a ∨ s.idleHost = false → exec c s = .next s)) ∧
  (∀ (s : State) (d : Domain),
    (s.pwr.dev = .standby ∨ s.ctrlDark = true → s.pwr.onDemand.contains d = true → s.pwr.trans = none →
      ∃ t, exec (.domainIdleTimeout d) s = .next t ∧ t.powered d = false ∧ d ∉ t.pwr.onDemand ∧ t.pwr.dev = s.pwr.dev ∧
        (s.sup.feRunning = false → t.mgmt.latched = s.mgmt.latched) ∧ t.flash.rollback = s.flash.rollback) ∧
    (s.pwr.dev ≠ .standby ∧ s.ctrlDark = false ∨ s.pwr.onDemand.contains d = false ∨ s.pwr.trans ≠ none → exec (.domainIdleTimeout d) s = .next s) ∧
    exec .slowCrystalChangeover s = .next { s with pwr := { s.pwr with crystal := true } })

/-- STATE_TRANSITION_DONE (R351): with no transition nothing happens; a step whose conditions are not met changes nothing; the last
step to SERVICE, to LIT and READY with no pin asking for the fallback beam, and to STANDBY takes DEV_STATE there where MOD_HEALTH does not
become FAILED; STANDBY leaves COMP, SCAN and EMIT unpowered and the emitter dark, and READY from LIT the emitter dark (Table 18-2). With
LIMP_N low, LIT, READY and STANDBY are reached and the fallback beam engages at once, wherever the path leads (R218, Table 10-7). The write of
the PARK image schedules SLEEP_GO (R354, R362).
The clauses that rest on a reading of the model name it in log 17. -/
def Obligations.TransitionStepsComplete : Prop :=
  ∀ s : State,
    (s.pwr.trans = none → exec .stateTransitionDone s = .next s) ∧
    (∀ d rest, s.pwr.trans = some ⟨d :: rest⟩ → s.stepReady d = false → exec .stateTransitionDone s = .next s) ∧
    (s.pwr.trans = some ⟨[.standby]⟩ → s.stepReady .standby = true → s.rally.coldPending = false → s.flt.health ≠ 2 →
      s.healthBits.all (fun b => decide (6 ≤ b)) = true → s.pwr.limpLow = false → s.pwr.lightOn = false ∨ s.flt.hostLostRaised = false →
      ∃ t, exec .stateTransitionDone s = .next t ∧ t.pwr.trans = none ∧ t.pwr.dev = .standby ∧ t.pwr.comp = false ∧ t.pwr.scan = false ∧
        t.pwr.emit = false ∧ Safety.allOpen t ∧ t.sup.vledOn = false ∧ t.pwr.dark = s.pwr.dark) ∧
    (s.pwr.trans = some ⟨[.lit]⟩ → s.stepReady .lit = true → s.flt.health ≠ 2 → s.healthBits.all (fun b => decide (6 ≤ b)) = true →
      s.pwr.limpLow = false → s.pwr.lightOn = false ∨ s.flt.hostLostRaised = false →
      ∃ t, exec .stateTransitionDone s = .next t ∧ t.pwr.trans = none ∧ t.pwr.dev = .lit ∧
        t.zones.map Zone.closed = s.zones.map Zone.closed ∧ t.zones.map Zone.gz = s.zones.map Zone.gz) ∧
    (∀ d rest, (d = .lit ∨ d = .ready ∨ d = .standby ∧ s.pwr.dark = []) → s.pwr.trans = some ⟨d :: rest⟩ → s.stepReady d = true →
      s.pwr.limpLow = true → Safety.notFailed s → s.up = true → s.rally.phase ≠ .handover → s.selectImage ≠ none → s.pwr.dev ≠ .fallback →
      ∃ t, exec .stateTransitionDone s = .next t ∧ t.pwr.trans = none ∧ t.pwr.dev = .fallback ∧ .limpN ∈ t.flt.fbCauses) ∧
    (s.pwr.trans = some ⟨[.ready]⟩ → s.pwr.limpLow = false → s.pwr.lightOn = false ∨ s.flt.hostLostRaised = false → s.flt.health ≠ 2 →
      s.healthBits.all (fun b => decide (6 ≤ b)) = true →
      ∃ t, exec .stateTransitionDone s = .next t ∧ t.pwr.trans = none ∧ t.pwr.dev = .ready ∧ t.pwr.comp = true ∧ t.pwr.scan = true ∧
        t.pwr.emit = true ∧
        (s.pwr.dev = .lit → s.sup.vledOn = true ∨ s.sup.offDue = true ∨ Safety.allOpen s → Safety.allOpen t ∧ t.sup.vledOn = false)) ∧
    (∀ v rest, s.flashWorks = true → Safety.notFailed s → s.pwr.trans = some ⟨.park :: rest⟩ → 6 ∈ s.flash.due →
      (6 ∉ s.flash.aDone → ∃ t, exec (.flashRecordWrite .parkImage .a true) s = .next t ∧
        t.flash.parkImage.a = .good (.of parkValue s.parkContent) ∧ 6 ∈ t.flash.aDone ∧ t.pwr.sleepDue = s.pwr.sleepDue) ∧
      (6 ∈ s.flash.aDone → s.flash.parkImage.a = .good v → ∃ t, exec (.flashRecordWrite .parkImage .b true) s = .next t ∧
        t.flash.parkImage = ⟨.good v, .good v⟩ ∧ 6 ∉ t.flash.due ∧ t.pwr.sleepDue = true ∧ t.pwr.trans = s.pwr.trans)) ∧
    (s.pwr.trans = some ⟨[.service]⟩ →
      ∃ t, exec .stateTransitionDone s = .next t ∧ t.pwr.trans = none ∧ t.pwr.dev = .service ∧ t.zones = s.zones)

/-- SLEEP_GO (R348, R350, R354, R358, R359, R362): with no wake source fired the module parks: DEV_STATE PARK, SLEEP_RESULT DONE, every switched
domain off, REFCLK stopped with TSTAMP and the slow count captured, every zone switch open, every level USER, no pending commit, every host
box slot disabled, every clamp at its value of Table 18-4, the levels of the light-request pins those sampled at that edge (R415), and of
the rails VAON alone present, with VSRAM at its retention level under PARK_RETAIN. A wake that has fired wins: the module stays in STANDBY with SLEEP_RESULT ABORTED_WAKE and EV113. Without a scheduled entry nothing
happens.
WAKE_SOURCE and WAKE_ALARM (R343, R355, R361): an enabled source in PARK starts REFCLK, with TSTAMP reconstructed from the slow count, and is
recorded; in STANDBY it is recorded, and a sleep entry in progress is aborted; the timer wakes only while it is armed, and raises EV112 in
STANDBY; sources that are not enabled change the pin levels at most, and in FALLBACK levels that ask for no light any more end it (R219).
The clauses that rest on a reading of the model name it in log 17, 18. -/
def Obligations.SleepAndWake : Prop :=
  (∀ (s : State) (w : WakeBits) (lv : Option LightPins),
    (s.pwr.sleepDue = false → exec (.sleepGo w lv) s = .next s) ∧
    (s.pwr.sleepDue = true → s.enabledWakes w = [] →
      ∃ t, exec (.sleepGo w lv) s = .next t ∧ t.pwr.life = .parked ∧ t.pwr.dev = .park ∧ t.pwr.sleepResult = 1 ∧ t.pwr.trans = none ∧
        t.pwr.comp = false ∧ t.pwr.scan = false ∧ t.pwr.emit = false ∧ t.pwr.link = false ∧ t.pwr.aux = false ∧ t.pwr.refclk = false ∧
        (∀ l, lv = some l → t.pwr.lightOn = l.lightOn ∧ t.pwr.limpLow = l.limpLow) ∧
        t.pwr.stopTstamp = s.pwr.tstamp ∧ t.pwr.stopSlow = s.pwr.slow ∧ Safety.allOpen t ∧ t.sup.vledOn = false ∧
        t.mgmt.can.level = .user ∧ t.mgmt.vexlink.level = .user ∧ t.mgmt.svc.level = .user ∧ t.tim.pend = none ∧ t.tim.toBind = [] ∧
        t.glare.hostBoxes = List.replicate 32 Box.off ∧ t.flt.faultN = false ∧ (∀ c, t.clampOf c = some c.value) ∧
        t.railMv .vaon = 900 ∧ (∀ r ∈ [Rail.vcore, .vser, .vio, .vled], t.railMv r = 0) ∧
        t.railMv .vsram = (if t.flag K.parkRetain then 620 else 0) ∧
        t.sramModes .surfaceMemory = (if t.flag K.parkRetain then [.retention] else [.off])) ∧
    (s.pwr.sleepDue = true → s.enabledWakes w ≠ [] →
      ∃ t, exec (.sleepGo w lv) s = .next t ∧ t.pwr.dev = s.pwr.dev ∧ Safety.raised s t 113 ∧ t.pwr.sleepResult = 2 ∧ t.pwr.trans = none ∧ t.pwr.sleepDue = false ∧
        t.pwr.wakeCause = s.enabledWakes w ∧ t.tim = s.tim ∧ t.zones = s.zones ∧ t.surf = s.surf ∧ t.dict = s.dict ∧ t.flash = s.flash)) ∧
  (∀ (s : State) (w : WakeBits) (lv : Option LightPins),
    let pins := fun (p : Power) => { p with
      lightOn := match lv with
        | some l => l.lightOn
        | none => p.lightOn || w.lightOn
      limpLow := match lv with
        | some l => l.limpLow
        | none => p.limpLow || w.limpN }
    (4 ∈ s.enabledWakes w → s.alarmArmed = true) ∧
    (s.enabledWakes w = [] → s.pwr.dev ≠ .fallback → exec (.wakeSource w lv) s = .next { s with pwr := pins s.pwr }) ∧
    (s.up = true → s.pwr.dev = .fallback → s.flt.fbCauses = [] → s.flt.hostPresent = false → s.pwr.trans = none → lv = some ⟨false, false⟩ →
      ∃ t, exec (.wakeSource w lv) s = .next t ∧ t.pwr.trans = some ⟨[.ready]⟩ ∧ t.pwr.dev = .fallback) ∧
    (s.enabledWakes w ≠ [] → s.pwr.life = .running → s.pwr.dev = .standby → 5 ∉ s.enabledWakes w →
      (s.parking = true → ∃ t, exec (.wakeSource w lv) s = .next t ∧ t.pwr.dev = .standby ∧ t.pwr.trans = none ∧ t.pwr.sleepResult = 2 ∧
        t.pwr.wakeCause = s.enabledWakes w ∧ Safety.raised s t 113 ∧ t.tim = s.tim ∧ t.zones = s.zones) ∧
      (s.parking = false → 4 ∉ s.enabledWakes w →
        exec (.wakeSource w lv) s = .next { s with pwr := { pins s.pwr with wakeCause := s.enabledWakes w } })) ∧
    (s.enabledWakes w ≠ [] → s.pwr.life = .parked → s.pwr.refclk = false →
      ∃ t, exec (.wakeSource w lv) s = .next t ∧ t.pwr.refclk = true ∧ t.pwr.wakeCause = s.enabledWakes w ∧ t.pwr.life = .parked ∧
        t.pwr.tstamp = (s.pwr.stopTstamp + ((s.pwr.slow - s.pwr.stopSlow) * 15625 + 256) / 512) % 2 ^ 64 ∧ t.mgmt.reconstructed = true ∧
        t = { s with pwr := t.pwr, mgmt := { s.mgmt with reconstructed := true } }) ∧
    (s.alarmArmed = false → exec .wakeAlarm s = .next s) ∧
    (s.alarmArmed = true → s.pwr.life = .running → s.pwr.dev = .standby → s.parking = false →
      ∃ t, exec .wakeAlarm s = .next t ∧ Safety.raised s t 112 ∧
        Safety.reported { s with pwr := { s.pwr with wakeCause := [4], alarmDone := true } } t) ∧
    (s.alarmArmed = true → s.pwr.life = .parked → s.pwr.refclk = false →
      ∃ t, exec .wakeAlarm s = .next t ∧ t.pwr.refclk = true ∧ t.pwr.wakeCause = [4] ∧ t.pwr.life = .parked ∧
        t = { s with pwr := t.pwr, mgmt := { s.mgmt with reconstructed := true } }))

/-- PARK_RESUME (R343, R352, R355): with REFCLK running the module is in STANDBY again with its SAFE_DARK causes, its restart state and its flash
logs; ring address, CAN address, RW values and the HOST and FAULT openings of zones come from the PARK image where a copy of it is good (R354);
surfaces are kept under PARK_RETAIN, surface 0 among them, and without it all but surface 0 are EMPTY (R94, R103); the upstream link counts as lost; no zone switch is closed. It is in SAFE_DARK instead only where MOD_HEALTH becomes
FAILED, or where LIMP_N is low and the beam cannot engage; with LIMP_N low the fallback beam engages (Tables 10-7, 18-9). With COLD_PENDING set
and an image STAGED, the entry to STANDBY performs the cold activation (R393).
The clauses that rest on a reading of the model name it in log 18. -/
def Obligations.ParkResumeRestores : Prop :=
  ∀ (s : State) (reread : List (RecordId × CopyId)), s.pwr.life = .parked → s.pwr.refclk = true →
    ∃ t, exec (.parkResume reread) s = .next t ∧ t.pwr.life = .running ∧
      let sound := s.sup.phases.length = 6 ∧ 2 < s.nOk ∧ (s.zones.filter fun z => z.degraded).length ≤ 16 ∧
        ∃ l, s.flash.defects.value = some l ∧ ∀ e ∈ l, e.2 < 2
      (s.pwr.limpLow = false → s.flt.health = 2 ∨ sound → t.pwr.dev = .standby ∧ t.pwr.dark = s.pwr.dark ∧ t.sup.vledOn = false) ∧
      (t.pwr.dev = .standby ∨ t.pwr.dev = .safeDark ∧ (t.flt.health = 2 ∨ s.pwr.limpLow = true) ∨
        t.pwr.dev = .fallback ∧ s.pwr.limpLow = true ∧ .limpN ∈ t.flt.fbCauses) ∧
      (s.pwr.limpLow = true → s.flt.health ≠ 2 → sound → s.rally.phase ≠ .handover → s.pwr.dark = [] →
        t.pwr.dev = .fallback ∨ t.pwr.dev = .safeDark ∧ .noImage ∈ t.pwr.dark) ∧
      t.therm.restart = s.therm.restart ∧ t.flash.log = s.flash.log ∧ t.flash.bootCount = s.flash.bootCount ∧ t.vex.lost = true ∧
      Safety.allOpen t ∧ (t.pwr.dev ≠ .fallback → t.sup.vledOn = false) ∧ t.mgmt.can.level = .user ∧ t.pwr.stbHigh = true ∧
      (∀ i, s.flash.park.value = some i → t.vex.addr = i.addr ∧ t.vex.epoch = i.epoch ∧ t.can.addr = i.canAddr ∧
        ((i.vals.map Prod.fst).Nodup → ∀ e ∈ i.vals, t.par e.1 = e.2) ∧
        ∀ z, z < 512 → (z ∈ i.hostOpen → .host ∈ (t.zone z).causes) ∧ (z ∈ i.faultOpen → .fault ∈ (t.zone z).causes)) ∧
      (s.flag K.parkRetain = true → t.surf.mem = s.surf.mem ∧ ∀ n, (t.surface n).phase = (s.surface n).phase) ∧
      (s.flag K.parkRetain = false → ∀ n, n ≠ 0 → (t.surface n).phase = .empty) ∧
      (s.rally.coldPending = true → (s.slotOfBank (!s.rally.bankB)).state = .staged →
        t.rally.phase = .handover ∧ t.rally.coldRun = true ∧ t.rally.coldPending = false) ∧
      (s.rally.coldPending = false ∨ (s.slotOfBank (!s.rally.bankB)).state ≠ .staged → s.pwr.limpLow = false ∨ s.rally.phase ≠ .handover →
        t.rally = s.rally)


/-! ### The array and the slot grid (chapters 2, 3) -/

/-- ROW_SLOT_START (R47, R48, R53, R61, R62, R65, R66): the slot that ended is finished first: EV002 at LINE_MATCH_ROW, the transfer of the
staged timing values at APPLY_ROW, and with row 511 LOAD_DONE and EV001. Then, with no work frame nothing happens; a load pass begins when row 0 is complete; a complete row is
loaded into the shadow latches; an incomplete one is an underrun, EV004, which repeats the displayed frame, or takes the row from the
DISPLAYED bank under ACCEPT_MIXED.
The clauses that rest on a reading of the model name it in log 28. -/
def Obligations.RowSlotLoads : Prop :=
  (∀ s : State, s.tim.lastLoaded = none → s.finishSlot = s) ∧
  (∀ (s : State) (r : Nat), s.tim.lastLoaded = some r →
    let u := s.finishSlot
    let q := s.tim.staged
    let lo := stagedOr q K.frameMin s.tim.minCyc
    let hi := stagedOr q K.frameMax s.tim.maxCyc
    let lm := stagedOr q K.lineMatch s.tim.lineMatch
    u.tim.lastLoaded = none ∧ u.tim.work = s.tim.work ∧ u.tim.shadow = s.tim.shadow ∧ u.tim.active = s.tim.active ∧
    (r < 512 → r = s.tim.passMatchRow → Safety.raised s u 2) ∧
    (r < 512 → r ≠ s.tim.passMatchRow → kvGet u.mgmt.evCounts 2 = kvGet s.mgmt.evCounts 2) ∧
    (r < 511 → u.tim.loadDone = s.tim.loadDone ∧ u.tim.loadRow = s.tim.loadRow) ∧
    (511 ≤ r → u.tim.loadDone = true ∧ u.tim.loadRow = none ∧ Safety.raised s u 1) ∧
    (r < 512 → r = s.par K.applyRow → u.tim.lineMatch = lm ∧ u.par K.lineMatch = lm ∧
      (lo ≤ hi → s.margin ≤ hi → u.tim.minCyc = lo ∧ u.tim.maxCyc = hi ∧ u.tim.staged = [] ∧ u.par K.frameMin = lo ∧ u.par K.frameMax = hi) ∧
      (hi < lo ∨ hi < s.margin → u.tim.minCyc = s.tim.minCyc ∧ u.tim.maxCyc = s.tim.maxCyc ∧
        u.tim.staged = q.filter fun e => e.key != K.lineMatch)) ∧
    (r = 512 ∨ r ≠ s.par K.applyRow → u.dict = s.dict ∧ u.tim.staged = q ∧ u.tim.minCyc = s.tim.minCyc ∧ u.tim.maxCyc = s.tim.maxCyc ∧
      u.tim.lineMatch = s.tim.lineMatch)) ∧
  (∀ s : State, s.pwr.scan = true → s.pwr.comp = true → s.tim.stopped = false → s.tim.slotZero = false →
    let u := s.finishSlot
    (u.tim.work = none → exec .rowSlotStart s = .next u) ∧
    (∀ f, u.tim.work = some f → u.tim.loadRow = none → u.tim.loadDone = true → exec .rowSlotStart s = .next u) ∧
    (∀ f, u.tim.work = some f → u.tim.loadRow = none → u.tim.loadDone = false → 1 ≤ f.rowsDone → (u.tim.reload = true → f.rowsDone = 512) →
      exec .rowSlotStart s = .next { u with tim := { u.tim with
        lockOk := true, reload := false, underruns := 0, passPolicy := u.tim.underPolicy, passMatchRow := u.tim.lineMatch,
        work := some { f with mixedRows := [] }, shadow := putRow u.tim.shadow 0 (bankRow u.workBank 0), lastLoaded := some 0,
        loadRow := some 1 } }) ∧
    (∀ f r, u.tim.work = some f → u.tim.loadRow = some r → r < f.rowsDone →
      exec .rowSlotStart s = .next { u with tim := { u.tim with
        shadow := putRow u.tim.shadow r (bankRow u.workBank r), lastLoaded := some r, loadRow := if r = 511 then none else some (r + 1) } }) ∧
    (∀ f r, u.tim.work = some f → u.tim.loadRow = some r → f.rowsDone ≤ r → u.tim.passPolicy = 0 ∨ f.meetsRow r = true ∨ 8 ≤ u.tim.underruns →
      ∃ t, exec .rowSlotStart s = .next t ∧ Safety.raised u t 4 ∧
        Safety.reported { u with tim := { u.tim with loadRow := none, lastLoaded := none, reload := true, passPolicy := 0 } } t) ∧
    (∀ f r, u.tim.work = some f → u.tim.loadRow = some r → f.rowsDone ≤ r → u.tim.passPolicy ≠ 0 → f.meetsRow r = false →
      u.tim.underruns < 8 →
      ∃ t, exec .rowSlotStart s = .next t ∧ Safety.raised u t 4 ∧
        Safety.reported { u with tim := { u.tim with
          shadow := putRow u.tim.shadow r (bankRow u.dispBank r), lastLoaded := some r, loadRow := if r = 511 then none else some (r + 1),
          underruns := u.tim.underruns + 1, work := some { f with mixedRows := setAdd f.mixedRows r } } } t))

/-- GLOBAL_CYCLE_BOUNDARY (R49, R51, R52): a loaded frame swaps at the first boundary at which the displayed frame has served its earliest
count: the active latches take the shadow latches' codes, the banks' roles exchange, FRAME_COUNT advances and the frame counts anew. While
a frame is not loaded, the lock is lost, a reload is due or the count is not reached, what is displayed stays and its count advances; an
underrun of the row slot that begins with such a boundary is reported by it (R53, R61). No boundary changes the frame store.
The clauses that rest on a reading of the model name it in log 28. -/
def Obligations.SwapAtBoundary : Prop :=
  ∀ s : State, s.pwr.scan = true → s.pwr.comp = true → s.pwr.life = .running → s.tim.stopped = false → s.tim.lastLoaded = none →
    (∀ f, s.tim.work = some f → s.tim.loadDone = true → s.tim.lockOk = true → s.tim.reload = false →
      s.earliest f ≤ min (s.tim.served + 1) 65535 →
      ∃ t, exec .globalCycleBoundary s = .next t ∧ t.tim.active = s.tim.shadow ∧ t.tim.fs1Displayed = !s.tim.fs1Displayed ∧
        t.tim.frameCount = inc32 s.tim.frameCount 1 ∧ t.tim.disp = f ∧ t.tim.served = 0 ∧ t.tim.boundaryAt = s.now ∧
        t.tim.displayedTag = (if f.kind = .committed then f.tag else s.tim.displayedTag) ∧
        t.tim.bank0 = s.tim.bank0 ∧ t.tim.bank1 = s.tim.bank1) ∧
    (s.tim.work = none ∨ s.tim.loadDone = false ∨ s.tim.lockOk = false ∨ s.tim.reload = true ∨
        (∃ f, s.tim.work = some f ∧ min (s.tim.served + 1) 65535 < s.earliest f) →
      ∃ t, exec .globalCycleBoundary s = .next t ∧ t.tim.active = s.tim.active ∧ t.tim.fs1Displayed = s.tim.fs1Displayed ∧
        t.tim.frameCount = s.tim.frameCount ∧ t.tim.disp = s.tim.disp ∧ t.tim.displayedTag = s.tim.displayedTag ∧
        t.tim.served = min (s.tim.served + 1) 65535 ∧ t.tim.boundaryAt = s.now ∧
        ((∀ f r, s.tim.work = some f → s.tim.loadRow = some r → r < f.rowsDone) → t.tim.shadow = s.tim.shadow ∧ t.tim.slotZero = false) ∧
        (∀ f r, s.tim.work = some f → s.tim.loadRow = some r → f.rowsDone ≤ r → Safety.raised s t 4 ∧ t.tim.slotZero = true) ∧
        t.tim.bank0 = s.tim.bank0 ∧ t.tim.bank1 = s.tim.bank1)

/-- ZONE_CYCLE_BEGIN (R26, R30, R33, R34, R36, R131): a switch that is to open opens, and is scheduled to close again where nothing holds it;
one granted its closing closes while VLED is in its band and nothing holds it; through a sense cycle, but on the way out of LIT and FALLBACK,
no switch moves; the new phase slot and the current sample are taken; every other zone is untouched; the last opening on that way turns VLED
off (R155), and an excursion of VLED that this ends is reported TRANSIENT (R159, R197). A pixel conducts in a zone cycle for as
many periods as its code, a stretched cycle included (R27, R30), and where a swap falls inside the cycle for T = min(C_old, k) +
max(0, C_new - k); outside EMIT, with its switch open, and in a sense cycle it does not conduct. -/
def Obligations.ZoneSwitchesAtItsCycle : Prop :=
  ∀ (s : State) (z : Fin 512) (ua : Int), s.pwr.emit = true → s.pwr.life = .running → s.zones.length = 512 →
    ∃ t, exec (.zoneCycleBegin z ua) s = .next t ∧
      Safety.reported { s with zones := t.zones, sup := t.sup, sense := t.sense, tim := { s.tim with count := t.tim.count } } t ∧
      (s.sup.offDue = false ∨ s.sup.feRunning = false →
        t = { s with zones := t.zones, sup := t.sup, sense := t.sense, tim := { s.tim with count := t.tim.count } }) ∧
      (∀ j, j ≠ z.val → t.zone j = s.zone j) ∧
      (let q := s.zone z.val
       let still := s.sense.inCycle = true ∧ s.sup.offDue = false
       (still → (t.zone z.val).closed = q.closed ∧ (t.zone z.val).openAtCycle = q.openAtCycle) ∧
       (¬still → (t.zone z.val).closed =
          (if q.openAtCycle then false
           else q.closed || (q.closeGrant && q.closing && s.mayClose && s.vledInBand && !q.heldOpen)) ∧
          (t.zone z.val).openAtCycle = false ∧
          (q.openAtCycle = true → (t.zone z.val).closing = (s.mayClose && !q.heldOpen))) ∧
        (t.zone z.val).slot = q.newSlot.getD q.slot ∧ (t.zone z.val).newSlot = none ∧
        (t.zone z.val).stretched = false ∧ (t.zone z.val).length = 4096 ∧ t.tim.count = offsetOf (t.zone z.val).slot ∧
        (t.zone z.val).causes = q.causes ∧ (t.zone z.val).gz = q.gz ∧
        (t.zone z.val).samples = (if q.marked then q.samples else (ua.toNat :: q.samples).take 16)) ∧
      ((s.sup.offDue = true ∧ ∀ j, (t.zone j).closed = false) → t.sup.vledOn = false) ∧
      (s.sup.offDue = false → t.sup = s.sup ∧ t.sense = s.sense) ∧
      (∀ code n, code ≤ n → conductingPeriods code code 0 n = code) ∧
      (∀ old new k, old ≤ 4095 → new ≤ 4095 → k ≤ 4096 → conductingPeriods old new k 4096 = transitionPeriods old new k) ∧
      (∀ x y count, zoneOf x y < 512 → (s.zone (zoneOf x y)).closed = false ∨ s.sense.inCycle = true ∨ s.sense.cells ≠ .emit →
        s.conducts x y count = false)

/-! ### Binding and composition (chapters 3, 4) -/

/-- COMMIT_BIND (R18, R54 to R58, R70, R110): the oldest validated commit is bound. In READY, LIT and SERVICE with no composition begun it starts its
composition with its tag and its boxes; where it may supersede the work frame it is merged over that frame's commit and starts; it is
deferred to the pending slot, merged over a commit there, while it may not, and outside those states. With none waiting nothing happens.
The clauses that rest on a reading of the model name it in log 27. -/
def Obligations.CommitIsBound : Prop :=
  ∀ s : State, (s.tim.toBind = [] → exec .commitBind s = .next s) ∧
    ∀ c0 rest, s.tim.toBind = c0 :: rest → let c := { c0 with stamp := s.dict.stamp }
      (s.mayCompose = true → s.tim.work = none → s.tim.pend = none → c.campion = false →
        ∃ t f, exec .commitBind s = .next t ∧ t.tim = { s.tim with
            toBind := rest, pend := none, work := some f, loadRow := none, loadDone := false, reload := false, lastLoaded := none } ∧
          f.kind = .committed ∧ f.tag = c.tag ∧ f.commit = some c ∧ f.stage = .statistics ∧ f.rowsDone = 0 ∧ f.cal = s.chk.cal ∧
          f.surfMem = s.surf.mem ∧ f.hostBoxes = applyBoxes s.glare.hostBoxes c.boxes ∧ t.glare.hostBoxes = f.hostBoxes ∧
          t.zones = s.zones ∧ t.surf = s.surf ∧ t.pwr = s.pwr ∧ t.therm = s.therm ∧ t.sense = s.sense ∧ t.flash = s.flash ∧ t.chk = s.chk) ∧
      (s.mayCompose = true → (∀ w, s.tim.work = some w → s.maySupersede w c = true) →
        ∃ t f, exec .commitBind s = .next t ∧ t.tim.work = some f ∧ f.kind = .committed ∧ f.tag = c.tag ∧
          f.commit = some (match (s.tim.work.bind Frame.commit).toList ++ s.tim.pend.toList with
            | [] => c
            | e :: l => mergeCommit (l.foldl mergeCommit e) c) ∧
          t.tim.pend = none ∧ t.tim.toBind = rest ∧ t.tim.disp = s.tim.disp ∧ t.tim.active = s.tim.active) ∧
      ((s.mayCompose = true ∧ ∃ w, s.tim.work = some w ∧ s.maySupersede w c = false) ∨
          (s.mayCompose = false ∧ s.pwr.dev ≠ .fallback) →
        ∃ t, exec .commitBind s = .next t ∧
          t.tim = { s.tim with toBind := rest, pend := some (match s.tim.pend with
            | none => c
            | some p => mergeCommit p c) } ∧
          Safety.raised s t (if s.tim.pend = none then 7 else 8) ∧ Safety.told { s with tim := t.tim } t) ∧
      (s.pwr.dev = .fallback →
        ∃ t, exec .commitBind s = .next t ∧ t.glare.hostBoxes = applyBoxes s.glare.hostBoxes c.boxes ∧ t.tim.toBind = rest ∧
          t.tim.pend = some (match s.tim.pend with
            | none => c
            | some p => mergeCommit p c))

/-- The refresh triggers of Table 3-4 (R59, R60). MAX at a boundary, where the displayed frame completes FRAME_MAX_CYC - M cycles with no
composition begun and the pending slot empty, with E = FRAME_MAX_CYC; REFLEX at a change of the reflex set; BUDGET at a fall of a budget in
force by more than 1 %; RELEASE at a host's LIT in FALLBACK. Each starts a refresh with the tag on show, or the pending commit where one
waits; while a composition has begun it is held, and in STANDBY, PARK and SAFE_DARK it does nothing. A held trigger is judged at the swap
against the frame just swapped: it starts a refresh, has the pending commit serve it, or lapses; MAX always lapses. -/
def Obligations.RefreshesAreTriggered : Prop :=
  ∀ s : State,
    let refreshed := fun (t : State) (most : Bool) => ∃ f, t.tim.work = some f ∧ f.kind = .refresh ∧ f.commit = none ∧
      f.tag = t.tim.displayedTag ∧ f.eMax = most ∧ f.stage = .statistics ∧ f.rowsDone = 0 ∧ f.reflexBoxes = t.reflexBoxes
    let served := fun (t : State) (c : Commit) => ∃ f, t.tim.work = some f ∧ f.kind = .committed ∧ f.commit = some c ∧ f.tag = c.tag ∧
      t.tim.pend = none
    let acts := fun (u t : State) (r : Trigger) =>
      (s.mayCompose = true → s.tim.work = none → s.tim.pend = none → refreshed t false) ∧
      (∀ c, s.mayCompose = true → s.tim.work = none → s.tim.pend = some c → served t c) ∧
      (∀ w, s.mayCompose = true → s.tim.work = some w → t.tim = { s.tim with held := enumAdd s.tim.held r }) ∧
      (s.mayCompose = false → t.tim = u.tim)
    let grid := s.pwr.scan = true ∧ s.pwr.comp = true ∧ s.pwr.life = .running ∧ s.tim.lastLoaded = none ∧ s.sense.inCycle = false
    (grid → s.tim.work = none → ∃ t, exec .globalCycleBoundary s = .next t ∧
      (s.mayCompose = true → s.tim.pend = none → s.tim.maxFired = false → s.tim.maxCyc ≤ min (s.tim.served + 1) 65535 + s.margin →
        refreshed t true) ∧
      (s.mayCompose = false ∨ s.tim.pend ≠ none ∨ s.tim.maxFired = true ∨ min (s.tim.served + 1) 65535 + s.margin < s.tim.maxCyc →
        t.tim.work = none ∧ t.tim.pend = s.tim.pend)) ∧
    (∀ n : Fin 16, (s.glare.slots.getD n.val ReflexSlot.reset).used = true → s.sensing = false → s.pwr.dev ≠ .fallback →
      ∃ t, exec (.reflexHoldExpiry n) s = .next t ∧ acts s t .reflex) ∧
    (∀ v, s.pwr.dev ≠ .fallback →
      let u : State := { s with pwr := { s.pwr with vinMv := v } }
      (u.budgetFell s.tim.disp = true → ∃ t, exec (.vinDeratingChange v) s = .next t ∧ acts u t .budget) ∧
      (u.budgetFell s.tim.disp = false → exec (.vinDeratingChange v) s = .next u)) ∧
    (∀ r, Safety.accepts s (Safety.order r K.stateRequest 1 3) → s.pwr.dev = .fallback → (∀ c ∈ s.flt.fbCauses, c = .thermal) →
      Safety.notFailed s → Safety.nothingHeld s → (∀ w, s.tim.work = some w → w.kind = .fallback) →
      ∃ t, exec (.stateRequestLit r) s = .next t ∧ t.pwr.dev = .lit ∧ (s.tim.pend = none → refreshed t false) ∧
        ∀ c, s.tim.pend = some c → served t c) ∧
    (∀ f, grid → s.tim.work = some f → s.tim.stopped = false → s.tim.loadDone = true → s.tim.lockOk = true → s.tim.reload = false →
      s.earliest f ≤ min (s.tim.served + 1) 65535 → s.margin < s.tim.maxCyc → s.mayCompose = true → Safety.notFailed s →
      lastingCurrents s.gridBoundary.countSense.currentVerdicts = [] →
      ∀ h, s.tim.held = [h] → ∃ t, exec .globalCycleBoundary s = .next t ∧ t.tim.disp = f ∧ t.tim.held = [] ∧
        (∀ c, s.tim.pend = some c → served t c) ∧
        (s.tim.pend = none → s.stillHolds f h = true → refreshed t false) ∧
        (s.tim.pend = none → s.stillHolds f h = false → t.tim.work = none) ∧
        s.stillHolds f .max = false ∧ (s.stillHolds f .reflex = true ↔ s.reflexBoxes ≠ f.reflexBoxes) ∧
        (s.stillHolds f .window = true ↔ (s.glare.windows.map fun w => w.isBlanked) ≠ f.blanked) ∧ s.stillHolds f .budget = s.budgetFell f)

/-- STATISTICS_PASS_END (R13, R86, R87, R125, R164): the work frame's pass ends with its zone sums and the limiter's result, and its rows are written
next; a tile lost at both looks raises EV018, marks its surface DECODE_FAULT and restarts the pass with the same commit and tag.
ROW_COMPLETE (R49, R86, R88, R89, R125, R126): the next row of the work frame is written into the WORK bank, and the DISPLAYED bank is untouched;
with row 511 the frame is written; INTENSITY windows that await their second look, from this composition or from one abandoned before it
(R198), are judged with their last row: a match changes their own state only; one that
mismatches again is LASTING, and under WINDOW_BLANK the composition restarts; a tile lost at both looks restarts it too.
That such a window reads LASTING, and not BLANKED, until the first frame that blanks it is the model's choice of log 50; the other clauses that
rest on a reading of the model name it in log 28. -/
def Obligations.FramesAreComposed : Prop :=
  (∀ (s : State) (looks : PassLooks) (f : Frame), s.tim.work = some f → f.stage = .statistics → f.kind ≠ .fallback →
    (f.tileLost looks = none →
      ∃ t, exec (.statisticsPassEnd looks) s = .next t ∧
        t.tim = { s.tim with
          work := some { s.sumFrame f s.budgetB with stage := .writing }, loadRow := none
          loadDone := false, lastLoaded := none, reload := false } ∧
        t.comp = { s.comp with zoneSums := (s.sumFrame f s.budgetB).sums, zoneSumTag := f.tag } ∧
        t.glare = { s.glare with
          windows := t.glare.windows, intLooks := addLooks s.glare.intLooks (f.intensityLooks looks).1 } ∧
        Safety.reported { s with tim := t.tim, comp := t.comp, glare := t.glare } t) ∧
    (∀ e, f.tileLost looks = some e → ∃ t, exec (.statisticsPassEnd looks) s = .next t ∧ Safety.restartedFor s t f e)) ∧
  (∀ (s : State) (looks : PassLooks) (f : Frame), s.tim.work = some f → f.stage = .writing → f.kind ≠ .fallback →
    (f.tileMisread looks = none → s.intensityLasting f looks f.rowsDone = [] →
      ∃ t g, exec (.rowComplete looks) s = .next t ∧ t.workBank = bankWriteRow s.workBank f.rowsDone (f.rowOf f.source f.rowsDone) ∧
        t.dispBank = s.dispBank ∧ t.tim = { s.tim with bank0 := t.tim.bank0, bank1 := t.tim.bank1, work := some g } ∧
        t.glare.hostBoxes = s.glare.hostBoxes ∧ t.glare.slots = s.glare.slots ∧
        t.glare.intLooks = s.glare.intLooks.filter (fun e => !(s.lookAgain f f.rowsDone).contains e) ∧
        (s.lookAgain f f.rowsDone = [] → f.rowsDone ≠ 511 → Safety.reported { s with tim := t.tim } t) ∧
        (f.rowsDone ≠ 511 →
          g = { f with rowsDone := f.rowsDone + 1 } ∧
          Safety.reported { s with tim := t.tim, glare := { s.glare with windows := t.glare.windows, intLooks := t.glare.intLooks } } t) ∧
        (f.rowsDone = 511 →
          g = { f with rowsDone := 512, stage := .written, sigSelf := g.sigSelf })) ∧
    (∀ e, f.tileMisread looks = none → s.lookAgain f f.rowsDone = [e] → s.intensityLasting f looks f.rowsDone = [e.1] →
      s.par K.reactSignature = 1 →
      ∃ t g, exec (.rowComplete looks) s = .next t ∧ Safety.raised s t 84 ∧ t.tim.work = some g ∧ g.stage = .statistics ∧ g.rowsDone = 0 ∧
        g.tag = f.tag ∧ g.commit = f.commit ∧ t.dispBank = s.dispBank ∧
        ((t.glare.windows[e.1]?).map fun w => (w.phase, w.isBlanked)) = (s.glare.windows[e.1]?).map fun _ => (SigPhase.lasting, true)) ∧
    (∀ e, f.tileMisread looks = some e → ∃ t, exec (.rowComplete looks) s = .next t ∧ Safety.restartedFor s t f e))

/-- Every pixel's code is computed as R37's pseudocode has it, from its intensity I, g, Gz held to 8,192 to 24,576, L to at most 32,768 and S,
each product rounded half up and the last clamped to 4,095: under a box of the frame, and for a STUCK_ON pixel, it is 0 whatever the
layers, the gains and the limiter say (so R112, R116), and no code is above 4,095. -/
def Obligations.CoveredPixelsAreDark : Prop :=
  ∀ (f : Frame) (x y : Nat), x < 2048 →
    (f.rowOf f.source y).getD x 1 < 4096 ∧
    (f.inBox x y = true ∨ defectIn f.cal x y = 3 → (f.rowOf f.source y).getD x 1 = 0) ∧
    (f.inBox x y = false → defectIn f.cal x y ≠ 3 →
      let p1 := f.intensity f.source x y * (384 + gpOf f.cal (2048 * y + x))
      let p2 := (p1 * min 24576 (max 8192 (f.gz.getD (zoneOf x y) 16384)) + 8192) / 2 ^ 14
      let p3 := (p2 * min f.limit 32768 + 16384) / 2 ^ 15
      let p4 := (p3 * f.sComp + 16384) / 2 ^ 15
      (f.rowOf f.source y).getD x 1 = min ((p4 + 4096) / 2 ^ 13) 4095)

/-- COMPOSITION_WATCHDOG (R205): a first failure restarts the composition with the same commit and tag; a failure of the restart is LASTING: EV086
is raised, its commit returns to the pending slot, and the fallback beam engages under FALLBACK_BEAM, or the module enters SAFE_DARK (R206). HALF_LOCK_DIVERGENCE (R63, R64): both engines stop until the
next boundary and the lock is lost; a second one before a swap with the lock held is LASTING. EV006 is raised each time.
The clauses that rest on a reading of the model name it in log 28. -/
def Obligations.WatchdogAndHalfLock : Prop :=
  ∀ (s : State) (stage : CompStage) (field left right : Nat),
    (∀ f, s.tim.work = some f → f.kind ≠ .fallback → f.stage ≠ .written →
      (f.restarted = false → ∃ t g, exec (.compositionWatchdog stage) s = .next t ∧ t.tim.work = some g ∧ g.restarted = true ∧
        g.stage = .statistics ∧ g.commit = f.commit ∧ g.tag = f.tag ∧ t.tim.active = s.tim.active ∧ t.tim.disp = s.tim.disp ∧
        t.zones = s.zones ∧ t.surf = s.surf ∧ t.tim.pend = s.tim.pend) ∧
      (f.restarted = true → ∀ c, f.commit = some c →
        let back := some (match s.tim.pend with
          | some p => mergeCommit c p
          | none => c)
        (s.par K.reactComposition = 3 → Safety.engages s → s.pwr.scan = true →
          ∃ t, exec (.compositionWatchdog stage) s = .next t ∧ Safety.raised s t 86 ∧ t.tim.pend = back ∧ t.pwr.dev = .fallback ∧
            .reaction ∈ t.flt.fbCauses ∧ t.comp.inReset = true ∧ t.flt.renderOn = true ∧ t.tim.active = s.tim.active ∧ t.tim.disp = s.tim.disp) ∧
        (s.par K.reactComposition = 4 → s.pwr.dev ≠ .safeDark → s.surf.queue = [] → s.surf.waiting = [] →
          ∃ t, exec (.compositionWatchdog stage) s = .next t ∧ Safety.raised s t 86 ∧ t.tim.pend = back ∧ t.tim.work = none ∧
            t.pwr.dev = .safeDark ∧ (.fault ∈ t.pwr.dark ∨ .failed ∈ t.pwr.dark) ∧ Safety.allOpen t ∧ t.sup.vledOn = false))) ∧
    (s.tim.work = none → exec (.compositionWatchdog stage) s = .next s) ∧
    (s.pwr.scan = true → (s.tim.diverged ≠ none → s.par K.reactHalfLock = 0) →
      ∃ t, exec (.halfLockDivergence field left right) s = .next t ∧ Safety.raised s t 6 ∧
        Safety.reported { s with tim := { s.tim with
          stopped := true, lockOk := false, loadDone := false, loadRow := none, lastLoaded := none
          diverged := if s.tim.diverged = none then some (field, left, right) else none } } t) ∧
    (s.pwr.scan = false → exec (.halfLockDivergence field left right) s = .next s)

/-! ### The guard checker and the monitor (chapters 4, 6) -/

/-- GUARD_PASS_DONE (R128, R129): a pass in progress ends with the active boxes that read a non-zero code awaiting their second look and
SUM_DISP formed for every zone. GUARD_REREAD_DONE (R129, R206): a box that reads clean is TRANSIENT; one that still reads a non-zero code is
LASTING: EV083, and the zone of every such pixel opens with cause FAULT. MONITOR_COPY_DONE (R90): the copy being formed replaces the
readable one. -/
def Obligations.GuardAndMonitor : Prop :=
  ∀ (s : State) (mis : Misreads),
    (s.glare.guardRunning = true → s.pwr.comp = true →
      ∃ t, exec (.guardPassDone mis) s = .next t ∧ t = { s with glare := t.glare } ∧ t.glare.guardRunning = false ∧
        t.glare.sumDisp.length = 512 ∧
        t.glare.guardLooks = (s.tim.disp.boxSet.map fun b =>
          (b.1, b.2.1, (violations (readCode (bankRows s.dispBank) mis) b.2.2).length)).filter (fun l => l.2.2 != 0) ∧
        t.glare.hostBoxes = s.glare.hostBoxes ∧ t.glare.slots = s.glare.slots) ∧
    (s.glare.guardRunning = false ∨ s.pwr.comp = false → exec (.guardPassDone mis) s = .next s) ∧
    (∀ l b, s.pwr.comp = true → s.glare.guardLooks = [l] → s.glare.sigLooks = [] → s.zones.length = 512 →
      s.tim.disp.boxSet.find? (fun e => e.1 == l.1 && e.2.1 == l.2.1) = some b →
      ∃ t, exec (.guardRereadDone mis) s = .next t ∧ t.glare.guardLooks = [] ∧
        (violations (readCode (bankRows s.dispBank) mis) b.2.2 = [] → t.glare.kdTransients = inc32 s.glare.kdTransients 1) ∧
        (∀ q ∈ violations (readCode (bankRows s.dispBank) mis) b.2.2,
          (t.zone (zoneOf q.1 q.2)).closed = false ∧ .fault ∈ (t.zone (zoneOf q.1 q.2)).causes ∧ Safety.raised s t 83)) ∧
    (s.comp.monForming = none → exec .monitorCopyDone s = .next s) ∧
    (∀ fc tag b, s.comp.monForming = some (fc, tag, b) →
      ∃ t, exec .monitorCopyDone s = .next t ∧ t = { s with comp := t.comp, vex := t.vex } ∧ t.comp = { s.comp with
          monForming := none, monSeq := inc32 s.comp.monSeq 1, monFrame := fc, monTag := tag,
          monitor := (List.range 16384).map fun j =>
            monitorValue (bankRows (if b then s.tim.bank1 else s.tim.bank0)) (j % 256) (j / 256) } ∧
        (s.par K.monitorStream ≠ 1 → t.vex = s.vex))

/-! ### The LED supply and the control engine (chapters 8, 22) -/

/-- OVERVOLTAGE_ENTER and OVERVOLTAGE_LEAVE (R413): the hold opens every zone switch with cause SUPERVISOR and turns every phase OFF, with a
SYSTEM record, after the TRANSIENT record of an excursion of VLED that ends with it (R159, R197); at its end VLED soft-starts in LIT, FALLBACK
and SERVICE. SOFT_START_DONE (R34, R35, R155): V_SET is at its target, and the zones that nothing holds open are
scheduled to close; no switch closes yet.
Logs 30 and 40 name the model's choices in it: V_SET at the start of a soft start, and the FLAGS of a SYSTEM record. -/
def Obligations.OvervoltageAndSoftStart : Prop :=
  ∀ s : State,
    (s.sup.ovHold = false → ∃ t, exec .overvoltageEnter s = .next t ∧ Safety.allOpen t ∧ t.sup.vledOn = false ∧ t.sup.ovHold = true ∧
      (∀ p ∈ t.sup.phases, p.on = false) ∧ (∀ z ∈ t.zones, .supervisor ∈ z.causes) ∧
      Safety.reported { s with zones := t.zones, sup := t.sup } t ∧
      (s.sup.feRunning = false →
        (s.mgmt.logQueue.length < 64 → ∃ b, t.mgmt.logQueue = s.mgmt.logQueue ++ [b] ∧ field b 12 1 = 3) ∧
        t = { s with zones := t.zones, sup := t.sup, free := t.free, mgmt := { s.mgmt with
          logQueue := t.mgmt.logQueue, logDropped := t.mgmt.logDropped, dropsToNote := t.mgmt.dropsToNote, reconstructed := false } })) ∧
    (s.sup.ovHold = true → exec .overvoltageEnter s = .next s) ∧
    (s.sup.ovHold = true → s.sup.vledOn = false → s.lighting = true ∨ s.pwr.dev = .service →
      let sup : Supply := { s.sup with
        ovHold := false, vledOn := true, softStart := true, softAt := s.now, offDue := false, vset := 0, vbase := 0
        feRunning := false, feGood := 0, fePeak := 0 }
      ∃ t, exec .overvoltageLeave s = .next t ∧ Safety.reported { s with sup := { sup with feTransients := t.sup.feTransients } } t ∧
        (s.sup.feRunning = false → t = { s with sup := sup })) ∧
    (s.sup.ovHold = true → s.lighting = false → s.pwr.dev ≠ .service → s.pwr.trans = none →
      exec .overvoltageLeave s = .next { s with sup := { s.sup with ovHold := false } }) ∧
    (s.sup.softStart = true →
      let goal := if s.par K.vledMode = 1 then s.par K.vledFixed else s.sup.target
      ∃ t, exec .softStartDone s = .next t ∧
        t = { s with zones := t.zones, sup := { s.sup with softStart := false, vset := goal, vbase := goal } } ∧
        t.zones.map Zone.closed = s.zones.map Zone.closed ∧
        ∀ z, z < s.zones.length →
          (t.zone z).causes = (s.zone z).causes.filter (fun c => !s.causeCleared c) ∧
          ((t.zone z).heldOpen = false → (t.zone z).closing = (!(s.zone z).closed || (s.zone z).openAtCycle)) ∧
          ((t.zone z).heldOpen = true → (t.zone z).closing = (s.zone z).closing)) ∧
    (s.sup.softStart = false → exec .softStartDone s = .next s)

/-- VLED_SAMPLE (R151, R152): with VLED off the sample is only recorded; with VLED on, no soft start and no phase at its limit or under a
look, a rail below its band turns one more healthy phase ON, one above it turns one OFF, and one inside it changes none. SENSE_FEED_FORWARD
(R153): entry to a sense cycle turns every phase OFF, its end turns as many ON as the displayed frame's current asks, and a probe pulse one
ON and one OFF.
GAIN_PERIOD (R35, R167 to R169, R177): whatever the loops read, every zone's gain in 8,192 to 24,576 stays there and moves by at most 16, and the
gain of an open zone, of one whose gain period is not due, and of one at half rate whose turn it is not, holds. With VLED off nothing happens.
The clauses that rest on a reading of the model name it in log 30, 31. -/
def Obligations.PhasesAndGainsFollowTheRail : Prop :=
  (∀ (s : State) (done : Nat) (headroomDone : Bool),
    (s.sup.vledOn = true →
      ∃ t, exec (.gainPeriod done headroomDone) s = .next t ∧
        (∀ z, z < 512 → 8192 ≤ (s.zone z).gz → (s.zone z).gz ≤ 24576 →
          8192 ≤ (t.zone z).gz ∧ (t.zone z).gz ≤ 24576 ∧ (t.zone z).gz ≤ (s.zone z).gz + 16 ∧ (s.zone z).gz ≤ (t.zone z).gz + 16 ∧
            ((s.zone z).closed = false ∨ s.gainDueFor z = false ∨ (s.sup.halfRate = true ∧ (s.zone z).skipNext = true) →
              (t.zone z).gz = (s.zone z).gz)) ∧
        t.glare.hostBoxes = s.glare.hostBoxes ∧ t.sense.pubLum = s.sense.pubLum ∧ t.flash = s.flash) ∧
    (s.sup.vledOn = false → exec (.gainPeriod done headroomDone) s = .next s)) ∧
  ∀ (s : State) (v : Nat), s.sup.phases.length = 6 →
    (s.sup.vledOn = false → ∀ looks,
      exec (.vledSample v looks) s = .next { s with sup := { s.sup with
        vled := v, vledSum := s.sup.vledSum + v, vledCnt := s.sup.vledCnt + 1, vledMin := min s.sup.vledMin v } }) ∧
    (s.sup.vledOn = true → s.sup.softStart = false → (∀ p ∈ s.sup.phases, p.limitLook = none ∧ p.startLook = none) →
      ∃ t, exec (.vledSample v []) s = .next t ∧ t.sup.vled = v ∧ t.sup.vset = s.sup.vset ∧ t.sup.vledOn = true ∧
        t.phasesOn.length =
          (if (v : Int) - s.sup.vset < -(s.par K.vband : Int) ∧ s.phasesOn.length < s.nOk then s.phasesOn.length + 1
           else if (s.par K.vband : Int) < (v : Int) - s.sup.vset ∧ 0 < s.phasesOn.length then s.phasesOn.length - 1
           else s.phasesOn.length) ∧
        t.nOk = s.nOk ∧ Safety.reported { s with sup := t.sup } t) ∧
    (s.sup.vledOn = true →
      (∃ t, exec (.senseFeedForward .senseEntry) s = .next t ∧ t.phasesOn = [] ∧
        t = { s with sup := { s.sup with phases := t.sup.phases } }) ∧
      (∃ t, exec (.senseFeedForward .senseExit) s = .next t ∧ t = { s with sup := { s.sup with
          phases := t.sup.phases, lastOn := t.sup.lastOn, onSeq := t.sup.onSeq } } ∧
        (s.phasesOn = [] → t.phasesOn.length = min s.tim.disp.phasesNeeded s.nOk)) ∧
      (∃ t, exec (.senseFeedForward .probeOn) s = .next t ∧ t = { s with sup := { s.sup with
          phases := t.sup.phases, lastOn := t.sup.lastOn, onSeq := t.sup.onSeq } } ∧
        (s.phasesOn.length < s.nOk → t.phasesOn.length = s.phasesOn.length + 1)) ∧
      (∃ t, exec (.senseFeedForward .probeOff) s = .next t ∧ t = { s with sup := { s.sup with phases := t.sup.phases } } ∧
        t.phasesOn.length = s.phasesOn.length - 1)) ∧
    (s.sup.vledOn = false → ∀ e, exec (.senseFeedForward e) s = .next s)

/-- VLED_FE_TIMEOUT (R159, R179, R209): while a following error runs the supervisor opens every zone, turns VLED off, ends an injection, raises
EV048 and takes the module to SAFE_DARK. ZONE_FE_TIMEOUT (R175): the zone is marked DEGRADED with EV052. MEASURED_POWER_CHECK (R166): a value
above the limit is a first look, a second one raises EV055 and brings its reaction, FALLBACK_BEAM by default (R206), a lower one after a first look is TRANSIENT. GZ_STORE_PERIOD
(R173): the write of GZ_STORE falls due where a gain has moved.
The clauses that rest on a reading of the model name it in log 30. -/
def Obligations.SupplySupervisors : Prop :=
  ∀ s : State,
    (s.sup.vledOn = true → s.sup.feRunning = true →
      ∃ t, exec .vledFeTimeout s = .next t ∧ t.pwr.dev = .safeDark ∧ (.supervisor ∈ t.pwr.dark ∨ .failed ∈ t.pwr.dark) ∧ Safety.allOpen t ∧
        t.sup.vledOn = false ∧ t.sup.injecting = false ∧ t.pwr.trans = none ∧ Safety.raised s t 48 ∧
        ((∃ u, s.sup.feLeft = some u ∧ s.now ≤ u + 60000000) → t.sup.feSecond = true)) ∧
    (s.sup.vledOn = false ∨ s.sup.feRunning = false → exec .vledFeTimeout s = .next s) ∧
    (∀ z : Fin 512, (s.zone z.val).fePending = true → s.zones.length = 512 →
      ∃ t, exec (.zoneFeTimeout z) s = .next t ∧ (t.zone z.val).degraded = true ∧ (t.zone z.val).fePending = false ∧
        Safety.raised s t 52 ∧ ∀ j, j ≠ z.val → (t.zone j).degraded = (s.zone j).degraded) ∧
    (∀ z : Fin 512, (s.zone z.val).fePending = false → exec (.zoneFeTimeout z) s = .next s) ∧
    (∀ v, s.sup.vledOn = true → v * s.zoneCurrents ≤ s.powerLimit * 1000000 →
      (s.sup.pmeasLook = none → exec (.measuredPowerCheck v) s = .next s) ∧
      (s.sup.pmeasLook ≠ none → ∃ t, exec (.measuredPowerCheck v) s = .next t ∧ t.sup.pmeasLook = none ∧
        t.flt.counts = s.flt.counts.modify chkPower (fun c => inc32 c 1) ∧
        Safety.reported { s with sup := { s.sup with pmeasLook := none } } t)) ∧
    (∀ v, s.sup.vledOn = true → s.powerLimit * 1000000 < v * s.zoneCurrents →
      (s.sup.pmeasLook = none → exec (.measuredPowerCheck v) s = .next { s with sup := { s.sup with
        pmeasLook := some (v * s.zoneCurrents / 1000000) } }) ∧
      (s.sup.pmeasLook ≠ none → s.par K.reactPower = 3 → Safety.engages s →
        ∃ t, exec (.measuredPowerCheck v) s = .next t ∧ Safety.raised s t 55 ∧ t.sup.pmeasLook = none ∧ t.pwr.dev = .fallback ∧
          .reaction ∈ t.flt.fbCauses ∧ t.comp.inReset = true ∧ t.flt.renderOn = true) ∧
      (s.sup.pmeasLook ≠ none → s.par K.reactPower = 4 → s.pwr.dev ≠ .safeDark →
        ∃ t, exec (.measuredPowerCheck v) s = .next t ∧ Safety.raised s t 55 ∧ t.sup.pmeasLook = none ∧ t.pwr.dev = .safeDark ∧
          (.fault ∈ t.pwr.dark ∨ .failed ∈ t.pwr.dark) ∧ Safety.allOpen t ∧ t.sup.vledOn = false) ∧
      (s.sup.pmeasLook ≠ none → s.par K.reactPower = 0 → ∃ t, exec (.measuredPowerCheck v) s = .next t ∧ Safety.raised s t 55 ∧
        Safety.reported { s with sup := { s.sup with pmeasLook := none } } t)) ∧
    (s.lighting = true → (∃ z ∈ s.zones, 16 ≤ absDiff z.gz z.stored) →
      ∃ t, exec .gzStorePeriod s = .next t ∧ 1 ∈ t.flash.due ∧ t = { s with flash := { s.flash with
        due := t.flash.due, aDone := t.flash.aDone, failedOnce := t.flash.failedOnce } }) ∧
    (s.lighting = false ∨ (∀ z ∈ s.zones, absDiff z.gz z.stored < 16) → exec .gzStorePeriod s = .next s)

/-! ### Sensing and reflex (chapters 6, 7) -/

/-- A sense cycle begins at the first boundary at which N cycles have passed since the last one and N is not 0 (R130), with the next number and
pattern and its start time, and marks the zone cycles in progress, but not those that end there (R36); it ends at the next boundary (R131):
a full sweep that is not discarded raises EV032 (R139), a map that was formed is published with EV033 and the next MAP_SEQ (R145), and a
discarded cycle publishes none (R148).
SENSE_PROBE_DONE (R132 to R138): the records of the pattern in progress are formed, with the sense cycle's number and time, and ROAD follows
PROBE. SENSE_RESULTS_DELIVERED (R140, R142, R144, R148): the map is formed and the zone results are delivered; a discarded cycle delivers no map and no
ZONE_LUM; a zone whose reference conversion fails twice has its ADC faulty, EV037, and its result withheld. Out of place, both do
nothing.
The clauses that rest on a reading of the model name it in log 29. -/
def Obligations.SenseResults : Prop :=
  ∀ s : State,
    let e := s.sense
    let grid := s.pwr.scan = true ∧ s.pwr.comp = true ∧ s.pwr.life = .running ∧ s.tim.work = none ∧ s.tim.lastLoaded = none ∧
      s.lighting = true ∧ e.started = true ∧ 0 < e.n
    (grid → e.inCycle = false → s.sup.offDue = false → e.n ≤ e.since + 1 → s.zones.length = 512 →
      ∃ t, exec .globalCycleBoundary s = .next t ∧ t.sense.inCycle = true ∧ t.sense.cells = .probe ∧ t.sense.seq = inc32 e.seq 1 ∧
        t.sense.started_at = s.now ∧ t.sense.since = 0 ∧ t.sense.calStart = s.chk.cal ∧ t.sense.discard = (s.senseState == 1) ∧
        t.sense.mapNew = none ∧ t.sense.map = e.map ∧
        (e.resumeAt = none → e.repeatNext = false → t.sense.pattern = e.next ∧ t.sense.repeating = false ∧
          (s.senseState ≠ 1 → t.sense.next = (e.next + 1) % 64)) ∧
        (e.resumeAt = none → e.repeatNext = true → t.sense.pattern = e.pattern ∧ t.sense.repeating = true) ∧
        (∀ z, z < 512 → (t.zone z).closed = (s.zone z).closed ∧ (t.zone z).marked = ((s.zone z).marked ||
          !decide (offsetOf (s.zone z).slot + (s.zone z).length ≤ 4096 * ((s.zone z).laps + 1))))) ∧
    (grid → e.inCycle = false → s.sup.offDue = true ∨ e.since + 1 < e.n →
      ∃ t, exec .globalCycleBoundary s = .next t ∧ t.sense.inCycle = false ∧ t.sense.since = e.since + 1 ∧ t.sense.seq = e.seq) ∧
    (grid → e.inCycle = true → e.since + 1 < e.n →
      ∃ t, exec .globalCycleBoundary s = .next t ∧
        (e.sweepEnds = true → e.discard = false → Safety.raised s t 32) ∧
        (∀ m, e.mapNew = some m → e.discard = false → Safety.raised s t 33) ∧
        (t.pwr.dev = s.pwr.dev →
          t.sense.inCycle = false ∧ t.sense.cells = .emit ∧ t.sense.seq = e.seq ∧ t.sense.mapNew = none ∧
          t.sense.sweeps = (if e.sweepEnds = true ∧ e.discard = false then inc32 e.sweeps 1 else e.sweeps) ∧
          (∀ m, e.mapNew = some m → e.discard = false → t.sense.map = m ∧ t.sense.mapSeq = inc32 e.mapSeq 1 ∧ t.sense.mapShown = inc32 e.mapSeq 1 ∧
            t.sense.mapTstamp = s.now ∧
            t.glare.mapWaiting = s.flag K.reflexEnable) ∧
          (e.mapNew = none ∨ e.discard = true → t.sense.map = e.map ∧ t.sense.mapSeq = e.mapSeq))) ∧
    (∀ r, s.sense.inCycle = true → s.sense.cells = .probe →
      ∃ t, exec (.senseProbeDone r) s = .next t ∧
        (t.pwr.dev = s.pwr.dev ∨ s.therm.ctrlOff = false →
          t.sense.recSeq = s.sense.seq ∧ t.sense.recTstamp = s.sense.started_at ∧ t.sense.recPattern = s.sense.pattern ∧
          t.sense.records.map (fun q => (q.vf, q.dark, q.ratio, q.nH, q.nV, q.defect)) =
            (s.formProbes r).map (fun q => (q.rcd.vf, q.rcd.dark, q.rcd.ratio, q.rcd.nH, q.rcd.nV, q.rcd.defect))) ∧
        (s.sense.discard = true → t = { s with sense := t.sense } ∧ t.sense.cells = .road) ∧
        (t.pwr.dev = s.pwr.dev → t.sense.cells = .road)) ∧
    (∀ r, s.sense.inCycle = false ∨ s.sense.cells ≠ .probe → exec (.senseProbeDone r) s = .next s) ∧
    (∀ adc bins, s.sense.inCycle = true → s.sense.cells = .road → s.sense.adcFaulty = [] → s.sense.adcLook = [] →
      (∀ z, z < 512 → adcPasses (readingAt adc z) = true) → Safety.notFailed s →
      ∃ t, exec (.senseResultsDelivered adc bins) s = .next t ∧ t.sense.cells = .dark ∧ t.sense.lum = s.sense.lum ∧
        (s.sense.discard = false → t.sense.pubLum = s.sense.lum ∧
          t.sense.mapNew = some ((s.onSense fun e => { e with adcBad := [] }).formMap bins)) ∧
        (s.sense.discard = true → t.sense.pubLum = s.sense.pubLum ∧ t.sense.mapNew = none) ∧ t.sense.map = s.sense.map ∧
        t.zones.map Zone.gz = s.zones.map Zone.gz ∧ t.zones.map Zone.closed = s.zones.map Zone.closed) ∧
    (∀ adc bins z v, s.sense.inCycle = true → s.sense.cells = .road → s.sense.discard = false → z < 512 → s.sense.adcFaulty = [] →
      s.sense.adcLook = [(z, v)] → (∀ j, j < 512 → adcPasses (readingAt adc j) = decide (j ≠ z)) →
      ∃ t, exec (.senseResultsDelivered adc bins) s = .next t ∧ t.sense.adcFaulty = [z] ∧ Safety.raised s t 37 ∧
        t.sense.pubLum.getD z none = none) ∧
    (∀ adc bins, s.sense.inCycle = false ∨ s.sense.cells ≠ .road → exec (.senseResultsDelivered adc bins) s = .next s)

/-- REFLEX_PROCESSING_DONE (R118, R119): when a waiting map has been processed with at least one slot allowed, every blob kept from it lies inside a
used slot's rectangle, whatever slots there were and however many blobs: none is left uncovered. With no blob kept, the slots only
age. REFLEX_HOLD_EXPIRY (R120): without sensing, a slot whose hold runs out is freed with EV034. -/
def Obligations.ReflexCoversEveryBlob : Prop :=
  ∀ s : State,
    (s.glare.mapWaiting = true → s.flag K.reflexEnable = true → 1 ≤ s.mapParam 6 → s.glare.slots ≠ [] →
      ∃ t, exec .reflexProcessingDone s = .next t ∧ t.glare.mapWaiting = false ∧
        (∀ b ∈ s.reflexBlobs, ∃ r ∈ t.glare.slots, r.used = true ∧ r.u0 ≤ b.rect.u0 ∧ r.w0 ≤ b.rect.w0 ∧ b.rect.u1 ≤ r.u1 ∧
          b.rect.w1 ≤ r.w1) ∧
        (s.reflexBlobs = [] → t.glare.slots = s.glare.slots.map fun r =>
          if r.used = true ∧ r.matched ≠ s.sense.mapTstamp ∧ r.matched + 1000 * s.mapParam 5 ≤ s.sense.mapTstamp then ReflexSlot.reset
          else r) ∧
        t.sense.map = s.sense.map ∧ t.chk.cal = s.chk.cal ∧ t.flash = s.flash) ∧
    (s.glare.mapWaiting = false ∨ s.flag K.reflexEnable = false → exec .reflexProcessingDone s = .next s) ∧
    (∀ n : Fin 16, (s.glare.slots.getD n.val ReflexSlot.reset).used = true → s.sensing = false →
      ∃ t, exec (.reflexHoldExpiry n) s = .next t ∧ t.glare.slots = s.glare.slots.set n.val ReflexSlot.reset ∧ Safety.raised s t 34 ∧
        t.sense.map = s.sense.map ∧ t.chk.cal = s.chk.cal ∧ t.flash = s.flash) ∧
    (∀ n : Fin 16, (s.glare.slots.getD n.val ReflexSlot.reset).used = false ∨ s.sensing = true →
      exec (.reflexHoldExpiry n) s = .next s)

/-! ### The thermal supervisor (chapter 9) -/

/-- TEMP_SAMPLE (R181, R187, R194): a plausible sample of a valid input is its value in force; one at the shutdown threshold after a first look
is LASTING and shuts the module down: EV066, SAFE_DARK with cause THERMAL, every switch open, a shutdown record, and for a controller diode
every switched domain off. In STANDBY the emitter's diodes are not sampled, in PARK and in reset none (R181). THERM_ZONE_LOOK_TIMEOUT
(R188, R194): the first look of a valid zone with no new estimate does the same.
SHUTDOWN_RECORD_WRITE (R195, R388): the record enters the area of the last 32; during a hand-over it waits for the image that resumes.
The derating factor of a region (R191): 32,768 up to D, 16,384 from E on, and between them falling, never outside those two values.
R194 lists COMP, SCAN, LINK and AUX as powered down; that EMIT is off too rests on R349, by which that form of SAFE_DARK powers only AON and
MGMT (logs 38, 45). The other clauses that rest on a reading of the model name it in log 29. -/
def Obligations.ThermalProtection : Prop :=
  (∀ s : State,
    (∀ (k : Fin 4) (v : Int),
      s.pwr.life ≠ .running ∨ s.pwr.dev = .park ∨ (s.pwr.dev = .standby ∧ k.val < 2) → exec (.tempSample k v) s = .next s) ∧
    (∀ (k : Fin 4) (v : Int), s.pwr.life = .running → s.pwr.dev ≠ .park → (s.pwr.dev = .standby → 2 ≤ k.val) →
      s.therm.diodes.length = 4 → (s.diode k.val).valid = true → (s.diode k.val).look = none →
      implausible v (s.diodeReference k.val) = 0 →
      ((s.diode k.val).shutLook = none →
        ∃ t, exec (.tempSample k v) s = .next t ∧ (t.diode k.val).t10 = v ∧ (t.diode k.val).lastValid = v ∧ (t.diode k.val).valid = true ∧
          (t.diode k.val).shutLook = (if s.shut10 (emitterDiode k.val) ≤ v then some v else none) ∧
          (t.diode k.val).hist = (v :: (s.diode k.val).hist).take 16 ∧ ∀ j, j ≠ k.val → t.diode j = s.diode j) ∧
      (∀ first, (s.diode k.val).shutLook = some first → s.shut10 (emitterDiode k.val) ≤ v →
        ∃ t, exec (.tempSample k v) s = .next t ∧ Safety.raised s t 66 ∧ t.pwr.dev = .safeDark ∧
          (.thermal ∈ t.pwr.dark ∨ .failed ∈ t.pwr.dark) ∧ Safety.allOpen t ∧ t.sup.vledOn = false ∧ t.therm.restart = 1 ∧
          t.therm.records.length = s.therm.records.length + 1 ∧ t.therm.shutCause = (if k.val < 2 then 1 else 2) ∧
          (2 ≤ k.val → t.pwr.comp = false ∧ t.pwr.scan = false ∧ t.pwr.emit = false ∧ t.pwr.link = false ∧ t.pwr.aux = false))) ∧
    (∀ z : Fin 512, (s.ztemp z.val).shutLook ≠ none → (s.ztemp z.val).valid = true →
      ∃ t, exec (.thermZoneLookTimeout z) s = .next t ∧ Safety.raised s t 66 ∧ t.pwr.dev = .safeDark ∧
        (.thermal ∈ t.pwr.dark ∨ .failed ∈ t.pwr.dark) ∧ Safety.allOpen t ∧ t.sup.vledOn = false ∧ t.therm.restart = 1 ∧
        t.therm.shutCause = 1 ∧ (t.ztemp z.val).shutLook = none) ∧
    (∀ z : Fin 512, (s.ztemp z.val).shutLook = none ∨ (s.ztemp z.val).valid = false →
      exec (.thermZoneLookTimeout z) s = .next s) ∧
    (∀ r rest, s.therm.records = r :: rest → s.rally.phase ≠ .handover →
      exec .shutdownRecordWrite s = .next { s with
        therm := { s.therm with records := rest }
        flash := { s.flash with thermLog := (s.flash.thermLog ++ [r]).drop (s.flash.thermLog.length + 1 - 32) } }) ∧
    (s.therm.records = [] ∨ s.rally.phase = .handover → exec .shutdownRecordWrite s = .next s)) ∧
  (∀ d e : Int, d < e →
    (∀ t, t ≤ d → deratingFactor t d e = 32768) ∧ (∀ t, e ≤ t → deratingFactor t d e = 16384) ∧
    (∀ t u, t ≤ u → deratingFactor u d e ≤ deratingFactor t d e) ∧
    ∀ t, 16384 ≤ deratingFactor t d e ∧ deratingFactor t d e ≤ 32768)


/-! ### Host presence and the fallback beam (chapters 10, 14) -/

/-- HOST_HEARTBEAT (R219, R220, R296): one from HOST_ADDR makes the host present and clears HOST_LOST and LIGHT_ON_NO_HOST; one from another address is
only counted. HOST_LOSS_TIMEOUT (R218, R220, R368, Table 10-7): a heartbeat taken at the same instant is in time; else a host that was present is lost with EV101, and in LIT the fallback beam engages for
HOST_LOST; a host never present is lost too, and with LIGHT_ON asserted the fallback beam engages for LIGHT_ON_NO_HOST.
That a host never present is lost with EV101 too, and that LIGHT_ON_NO_HOST waits for it, is a reading of the model (log 38, DEDUCED). -/
def Obligations.HostPresence : Prop :=
  ∀ s : State,
    (∀ q, s.up = true → s.can.busOff = false → s.par K.hostLoss ≠ 0 → s.flt.hostPresent = true →
      exec (.hostHeartbeat (s.par K.hostAddr) q) s = .next { s with flt := { s.flt with beat := some s.now } }) ∧
    (∀ q, s.up = true → s.can.busOff = false → s.par K.hostLoss ≠ 0 → s.flt.hostPresent = false →
      exec (.hostHeartbeat (s.par K.hostAddr) q) s = .next { s with flt := { s.flt with
        beat := some s.now, hostPresent := true, hostLostRaised := false,
        fbCauses := s.flt.fbCauses.filter fun c => decide (c ≠ .hostLost) && decide (c ≠ .lightOnNoHost) } }) ∧
    (∀ a q, s.up = true → s.can.busOff = false → a ≠ s.par K.hostAddr →
      exec (.hostHeartbeat a q) s = .next { s with can := { s.can with foreignBeats := inc32 s.can.foreignBeats 1 } }) ∧
    (∀ a q, s.up = false ∨ s.can.busOff = true → exec (.hostHeartbeat a q) s = .next s) ∧
    (∀ p, s.up = false → exec (.hostLossTimeout p) s = .next s) ∧
    (∀ p, s.up = true → s.flt.beat = some s.now →
      exec (.hostLossTimeout p) s = .next { s with pwr := { s.pwr with lightOn := p.lightOn, limpLow := p.limpLow } }) ∧
    (∀ p, s.up = true → s.flt.beat ≠ some s.now → s.flt.hostPresent = true →
      ∃ t, exec (.hostLossTimeout p) s = .next t ∧ t.flt.hostPresent = false ∧ t.flt.beat = none ∧ t.flt.packet = none ∧ Safety.raised s t 101 ∧
        t.pwr.lightOn = p.lightOn ∧ t.pwr.limpLow = p.limpLow ∧
        (s.pwr.dev = .lit → Safety.engages s → Safety.engaged s t .hostLost) ∧
        ((s.pwr.dev = .ready ∨ s.pwr.dev = .standby ∨ s.pwr.dev = .service) → p.lightOn = false →
          Safety.reported { s with
            flt := { s.flt with hostPresent := false, hostLostRaised := true, beat := none, packet := none }
            pwr := { s.pwr with lightOn := p.lightOn, limpLow := p.limpLow } } t)) ∧
    (∀ p, s.up = true → s.flt.beat ≠ some s.now → s.flt.hostPresent = false → s.flt.hostLostRaised = false →
      ∃ t, exec (.hostLossTimeout p) s = .next t ∧ t.flt.hostLostRaised = true ∧ Safety.raised s t 101 ∧
        (p.lightOn = true → Safety.engages s → t.pwr.dev = .fallback ∧ .lightOnNoHost ∈ t.flt.fbCauses)) ∧
    (∀ p, s.up = true → s.flt.beat ≠ some s.now → s.flt.hostPresent = false → s.flt.hostLostRaised = true →
      exec (.hostLossTimeout p) s = .next { s with
        flt := { s.flt with beat := none, packet := none }, pwr := { s.pwr with lightOn := p.lightOn, limpLow := p.limpLow } })

/-- LIMP_N_LOW_TIMEOUT and LIGHT_ON_TIMEOUT (R218): from READY, LIT or STANDBY the pin engages the fallback beam, LIGHT_ON only once the host's
absence has been found; while it is engaged the cause is added; in SERVICE only the level is noted. LIMP_N_HIGH_TIMEOUT (R219): its cause clears, and with none left, no
host and no light asked for, the zones open ORDERLY on the way to READY. SUPERVISOR_LIMP_ATTEMPT (R209): one attempt, held in a hand-over (R388); with no usable image NO_IMAGE is added
and SAFE_DARK is not left.
The clauses that rest on a reading of the model name it in log 38. -/
def Obligations.PinsEngageTheFallbackBeam : Prop :=
  ∀ s : State, s.up = true →
    (Safety.engages s → ∃ t, exec .limpNLowTimeout s = .next t ∧ Safety.engaged s t .limpN ∧ t.pwr.limpLow = true) ∧
    (Safety.engages s → s.flt.hostLostRaised = true →
      ∃ t, exec .lightOnTimeout s = .next t ∧ Safety.engaged s t .lightOnNoHost ∧ t.pwr.lightOn = true) ∧
    (s.pwr.dev = .fallback → s.flt.health ≠ 2 → s.rally.phase ≠ .handover →
      exec .limpNLowTimeout s = .next { s with
        pwr := { s.pwr with limpLow := true }, flt := { s.flt with fbCauses := enumAdd s.flt.fbCauses .limpN } }) ∧
    (s.pwr.dev = .service → s.rally.phase ≠ .handover →
      exec .limpNLowTimeout s = .next { s with pwr := { s.pwr with limpLow := true } } ∧
      exec .lightOnTimeout s = .next { s with pwr := { s.pwr with lightOn := true } }) ∧
    (s.flt.hostLostRaised = false → exec .lightOnTimeout s = .next { s with pwr := { s.pwr with lightOn := true } }) ∧
    (∀ on, s.flt.hostPresent = true →
      exec (.limpNHighTimeout on) s = .next { s with
        pwr := { s.pwr with lightOn := on, limpLow := false }, flt := { s.flt with fbCauses := enumDel s.flt.fbCauses .limpN } }) ∧
    (s.pwr.dev = .fallback → s.flt.hostPresent = false → s.pwr.trans = none → s.flt.fbCauses = [.limpN] →
      ∃ t, exec (.limpNHighTimeout false) s = .next t ∧ t.pwr.dev = .fallback ∧ t.pwr.trans = some ⟨[.ready]⟩ ∧ t.flt.fbCauses = [] ∧
        (∀ z, z < s.zones.length → (t.zone z).openAtCycle = (s.zone z).closed ∧ (t.zone z).closed = (s.zone z).closed ∧
          .state ∈ (t.zone z).causes) ∧ t.tim = s.tim) ∧
    (s.pwr.dev = .safeDark → s.pwr.dark = [.supervisor] → s.flt.hostPresent = false → s.pwr.limpLow = true → s.flt.limpTried = false →
      ∃ t, exec .supervisorLimpAttempt s = .next t ∧
        (s.rally.phase = .handover → t = { s with rally := { s.rally with heldFallback := enumAdd s.rally.heldFallback .limpN } }) ∧
        (s.rally.phase ≠ .handover → s.selectImage = none →
          t.pwr.dev = .safeDark ∧ .noImage ∈ t.pwr.dark ∧ .supervisor ∈ t.pwr.dark ∧ t.sup.feLeft = s.sup.feLeft) ∧
        (s.rally.phase ≠ .handover → s.selectImage ≠ none → Safety.notFailed s → Safety.nothingHeld s →
          Safety.engaged { s with pwr := { s.pwr with dark := [] } } t .limpN ∧ t.flt.limpTried = true ∧ t.sup.feLeft = some s.now)) ∧
    (s.pwr.dev ≠ .safeDark ∨ s.flt.limpTried = true ∨ s.pwr.limpLow = false → exec .supervisorLimpAttempt s = .next s)

/-- FB_RENDER_PERIOD (R217): in FALLBACK a render starts with the displayed tag; while one runs, or in a hand-over, it is held; elsewhere
nothing happens. RENDER_SUMS_DONE (R216): the limiter runs against the lower of the budget and FB_BUDGET_DW. RENDER_CODES_DONE (R88, R215): every row
is in the WORK bank and the DISPLAYED bank is untouched. VIN_DERATING_CHANGE (R22, R217): the new mean is taken, and in FALLBACK a change of a
budget by more than 1 % starts a render.
The spec gives a fallback frame no tag: that it has the displayed one is the model's choice of log 28. The other clauses that rest on a reading
of the model name it in log 38. -/
def Obligations.FallbackRenders : Prop :=
  ∀ s : State,
    (s.pwr.dev = .fallback → s.flt.renderOn = false → s.rally.phase ≠ .handover → s.selectImage ≠ none →
      ∃ t f, exec .fbRenderPeriod s = .next t ∧ f.kind = .fallback ∧ f.stage = .statistics ∧ f.tag = s.tim.displayedTag ∧ f.rowsDone = 0 ∧
        f.hostBoxes = s.glare.hostBoxes ∧ f.reflexBoxes = s.reflexBoxes ∧ f.cal = s.chk.cal ∧
        t = { s with
          tim := { s.tim with work := some f, loadRow := none, loadDone := false, reload := false, lastLoaded := none }
          flt := { s.flt with
            fbImage := t.flt.fbImage, wbNoImage := false, renders := inc32 s.flt.renders 1, lastRender := s.now, renderOn := true,
            renderHeld := false } }) ∧
    (s.pwr.dev = .fallback → s.flt.renderOn = true ∨ s.rally.phase = .handover →
      exec .fbRenderPeriod s = .next { s with flt := { s.flt with renderHeld := true } }) ∧
    (s.pwr.dev ≠ .fallback → exec .fbRenderPeriod s = .next s) ∧
    (∀ f, s.tim.work = some f → f.kind = .fallback → f.stage = .statistics →
      exec .renderSumsDone s = .next { s with
        tim := { s.tim with work := some { s.sumFrame f (min s.budgetB (s.par K.fbBudget)) with stage := .writing } }
        flt := { s.flt with renderBudgets := s.renderBudgets } }) ∧
    (∀ f, s.tim.work = some f → f.kind = .fallback → f.stage = .writing →
      ∃ t, exec .renderCodesDone s = .next t ∧ t.dispBank = s.dispBank ∧
        t.workBank = memWrite s.workBank 0 (((List.range 512).map fun y => rowCodes (f.rowOf f.source y)).flatten) ∧
        t = { s with tim := { s.tim with
          bank0 := t.tim.bank0, bank1 := t.tim.bank1,
          work := some { f with stage := .written, rowsDone := 512, sigSelf := f.selfSignatures } } }) ∧
    (s.tim.work = none → exec .renderSumsDone s = .next s ∧ exec .renderCodesDone s = .next s) ∧
    (∀ v, s.pwr.dev = .standby ∨ s.pwr.dev = .safeDark →
      exec (.vinDeratingChange v) s = .next { s with pwr := { s.pwr with vinMv := v } }) ∧
    (∀ v, s.pwr.dev = .fallback →
      let u : State := { s with pwr := { s.pwr with vinMv := v } }
      let changed := (u.renderBudgets.zip s.flt.renderBudgets).any fun e => changedBy e.1 e.2
      (changed = false → exec (.vinDeratingChange v) s = .next u) ∧
      (changed = true → s.flt.renderOn = true ∨ s.rally.phase = .handover →
        exec (.vinDeratingChange v) s = .next { u with flt := { s.flt with renderHeld := true } }) ∧
      (changed = true → s.flt.renderOn = false → s.rally.phase ≠ .handover → s.selectImage ≠ none →
        ∃ t f, exec (.vinDeratingChange v) s = .next t ∧ t.tim.work = some f ∧ f.kind = .fallback ∧ f.stage = .statistics ∧
          t.flt.renderOn = true ∧ t.pwr = u.pwr)) ∧
    (∀ v, s.mayCompose = true →
      ∃ t, exec (.vinDeratingChange v) s = .next t ∧ t.pwr = { s.pwr with vinMv := v } ∧ t.tim.disp = s.tim.disp ∧
        t.tim.active = s.tim.active ∧ t.zones = s.zones ∧ t.surf = s.surf)

/-! ### Vexlink lanes (chapter 11) -/

/-- RX_LOCKED, ALIGN_POLL, DESKEW_DONE, LANE_MAP_ACCEPTED and BRINGUP_RETRY (R233 to R236): a receiver in LOCK enters ALIGN; a lane with 64 sets is
aligned, one without has its polarity and its boundary corrected, and fails at its fifth try; with every active lane aligned DESKEW follows, which
accepts a skew of up to 32 UI; an accepted map brings the receiver UP. A failure is EV102 once in a run, and the retry begins again at
LOCK.
The clauses that rest on a reading of the model name it in log 26. -/
def Obligations.LanesComeUp : Prop :=
  ∀ s : State, s.laneService = true →
    (s.vex.rx = .off ∨ (s.vex.rx = .lock ∧ s.vex.retryDue = false) →
      exec .rxLocked s = .next { s with vex := { s.vex with
        rx := .align, rxLane := .l0, lanes := s.vex.lanes.map Lane.restart, retryDue := false, wakeLock := false } }) ∧
    (∀ (k : Fin 4) (look : LaneLook) (l : Lane), s.vex.rx = .align → s.vex.retryDue = false → s.vex.lanes[k.val]? = some l → l.aligned = false →
      (64 ≤ look.stable ∨ l.tries < 4 →
        ∃ t, exec (.alignPoll k look) s = .next t ∧
          t.vex.lanes = s.vex.lanes.set k.val (if 64 ≤ look.stable then { l with commaPos := look.commaPos.map Fin.val, aligned := true }
            else { l with
              commaPos := look.commaPos.map Fin.val, polInv := l.polInv != look.inverted,
              slips := l.slips + (look.commaPos.map Fin.val).getD 0, tries := l.tries + 1 }) ∧
          t.vex.rx = (if t.alignedLanes.length = s.vxLanes then .deskew else .align) ∧
          t = { s with vex := { s.vex with lanes := t.vex.lanes, rx := t.vex.rx } }) ∧
      (look.stable < 64 → 4 ≤ l.tries → s.vex.failRun = false →
        ∃ t, exec (.alignPoll k look) s = .next t ∧ Safety.raised s t 102 ∧ t.vex.rx = .align ∧ t.vex.retryDue = true ∧ t.vex.failRun = true)) ∧
    (∀ a : List Nat, s.vex.rx = .deskew → s.vex.retryDue = false → s.vex.lanes.length = 4 →
      ((∀ i ∈ s.alignedLanes, ∀ j ∈ s.alignedLanes, a.getD i 0 ≤ a.getD j 0 + 32) →
        ∃ t, exec (.deskewDone a) s = .next t ∧ t.vex.rx = .enum ∧
          t = { s with vex := { s.vex with rx := .enum, lanes := t.vex.lanes } } ∧
          ∀ i ∈ s.alignedLanes, ∀ j ∈ s.alignedLanes, (∀ k ∈ s.alignedLanes, a.getD k 0 ≤ a.getD j 0) →
            (t.vex.lanes.getD i Lane.reset).deskew = (a.getD j 0 - a.getD i 0 + 9) / 10) ∧
      ((∃ i ∈ s.alignedLanes, ∃ j ∈ s.alignedLanes, a.getD j 0 + 32 < a.getD i 0) → s.vex.failRun = false →
        ∃ t, exec (.deskewDone a) s = .next t ∧ Safety.raised s t 102 ∧ t.vex.rx = .deskew ∧ t.vex.retryDue = true)) ∧
    (∀ info : List (Option Byte), s.vex.rx = .enum → s.vex.retryDue = false →
      (laneMapFault s.vxLanes (s.par K.vxWidth) info = none →
        ∃ t, exec (.laneMapAccepted info) s = .next t ∧ t.vex.rx = .up ∧ t.vex.rxLane = .l0 ∧ t.vex.failRun = false ∧ t.vex.lost = false ∧
          (s.vex.lost = false → t = { s with vex := { s.vex with
            rx := .up, rxLane := .l0, failRun := false, lost := false, lostTimed := false, lanes := t.vex.lanes } }) ∧
          (s.vex.lost = true → t.vex.lossSeen = true ∧ t.flt.upLost = false ∧ t.can.canOnly = false)) ∧
      (∀ lane reason, laneMapFault s.vxLanes (s.par K.vxWidth) info = some (lane, reason) → s.vex.failRun = false →
        ∃ t, exec (.laneMapAccepted info) s = .next t ∧ Safety.raised s t 102 ∧ t.vex.rx = .enum ∧ t.vex.retryDue = true ∧
          t.vex.lastFail = laneFailNum reason)) ∧
    (∀ (k : Fin 4) (reason : LaneFail), s.vex.rx = .lock ∨ s.vex.rx = .align ∨ s.vex.rx = .deskew ∨ s.vex.rx = .enum →
      ∃ t, exec (.bringupRetry k reason) s = .next t ∧ t.vex.rx = .lock ∧ t.vex.retryDue = false ∧
        t.vex.lanes = s.vex.lanes.map Lane.restart ∧ (s.vex.retryDue = false → s.vex.failRun = false → Safety.raised s t 102) ∧
        (s.vex.retryDue = true → t = { s with vex := { s.vex with
          rx := .lock, rxLane := .l0, lanes := s.vex.lanes.map Lane.restart, retryDue := false, wakeLock := false } }))

/-- LINK_LOSS, VX_LOSS_TIMEOUT, TX_IDLE_TIMEOUT, ANNOUNCE_RECEIVED, WAKE_BURST_DETECTED, WAKE_RELOCK_DONE, OWN_PACKET_QUEUED and TX_RESTART (R238 to R246):
a loss on an active lane sends the receiver back to LOCK and ends a packet being forwarded with K30.7, one on an inactive lane changes
nothing, and one that lasts is EV096, flagged LASTING, and leaves the module to CAN while a heartbeat still shows the host; idle lanes go to L1 unless a
wake is in progress, a forwarded packet is in flight, or a packet cancels the announcement, and an announced L2 takes the receiver down; a wake burst is passed on.
The clauses that rest on a reading of the model name it in log 26. -/
def Obligations.LanesLoseAndWake : Prop :=
  ∀ s : State, s.pwr.link = true → s.up = true →
    (∀ (k : Fin 4) (c : LossKind), s.vex.rx = .up → s.laneActive k.val = true →
      exec (.linkLoss k c) s = .next { s with vex := { s.vex with
        rx := .lock, rxLane := .l0, lanes := s.vex.lanes.map Lane.restart, retryDue := false, wakeLock := false, lost := true,
        lostTimed := false, fwdOpen := false, out := if s.vex.fwdOpen then .abort :: s.vex.out else s.vex.out
        fwd := s.vex.fwd.map fun f => if f.ends = .lost then { f with ends := .k30_7 } else f } }) ∧
    (∀ (k : Fin 4) (c : LossKind), s.vex.rx ≠ .up ∨ s.laneActive k.val = false → exec (.linkLoss k c) s = .next s) ∧
    (s.vex.lost = true → s.vex.lostTimed = false →
      ∃ t, exec .vxLossTimeout s = .next t ∧ Safety.raised s t 96 ∧ (s.evMask 96 = false → bitOf (field ((kvGet t.mgmt.evLast 96).getD []) 15 1) 0 = true) ∧ t.vex.lostTimed = true ∧ t.flt.upLost = true ∧
        (s.fresh s.flt.beat = true → t.flt.hostPresent = true ∧ t.can.canOnly = true) ∧
        (s.fresh s.flt.beat = false → t.flt.hostPresent = false ∧ t.can.canOnly = s.can.canOnly)) ∧
    (s.vex.lost = false ∨ s.vex.lostTimed = true → exec .vxLossTimeout s = .next s) ∧
    (s.vex.txLane = .l0 → s.par K.vxTxIdle ≠ 0 → s.vex.rxLane ≠ .l0 → s.vex.own = [] → s.vex.retx = [] → s.forwarding = false →
      s.vex.wakeLock = false →
      exec (.txIdleTimeout false) s = .next { s with vex := { s.vex with
        out := .announce 1 :: s.vex.out, txLane := .l1, sending := .nothing } } ∧
      exec (.txIdleTimeout true) s = .next { s with vex := { s.vex with out := .train :: .announce 1 :: s.vex.out } }) ∧
    (∀ c, s.vex.txLane ≠ .l0 ∨ s.par K.vxTxIdle = 0 ∨ s.vex.rxLane = .l0 ∨ s.vex.own ≠ [] ∨ s.vex.retx ≠ [] ∨ s.forwarding = true ∨
        s.vex.wakeLock = true → exec (.txIdleTimeout c) s = .next s) ∧
    (s.vex.rx = .up →
      exec (.announceReceived 0) s = .next s ∧
      exec (.announceReceived 1) s = .next { s with vex := { s.vex with rx := .sleep, rxLane := .l1 } } ∧
      (s.pwr.dev ≠ .standby → exec (.announceReceived 2) s = .next { s with vex := { s.vex with rx := .off, rxLane := .l2 } }) ∧
      (s.pwr.dev = .standby → s.vex.txLane = .l2 → s.vex.restart = false →
        ∃ t, exec (.announceReceived 2) s = .next t ∧ t.pwr = { s.pwr with link := false, steps := t.pwr.steps } ∧ t.vex.rx = .off ∧ t.vex.rxLane = .l2)) ∧
    (s.vex.rx = .sleep →
      exec .wakeBurstDetected s = .next { s with vex := { s.vex with
        wakeLock := true, out := if s.vex.txLane = .l1 then .wakeBurst :: s.vex.out else s.vex.out,
        txLane := if s.vex.txLane = .l1 then .l0 else s.vex.txLane } }) ∧
    (s.vex.rx ≠ .sleep → s.vex.rxLane ≠ .l2 ∨ bitOf (s.par K.wakeEnable) 5 = false ∨ s.ctrlDark = true → exec .wakeBurstDetected s = .next s) ∧
    (s.vex.rx ≠ .sleep → s.vex.rxLane = .l2 → bitOf (s.par K.wakeEnable) 5 = true → s.ctrlDark = false →
      ∃ t, exec .wakeBurstDetected s = .next t ∧ t = { s with vex := t.vex } ∧ t.vex.rx = .lock ∧ t.vex.rxLane = .l0) ∧
    (s.vex.rx = .sleep → s.vex.wakeLock = true →
      exec (.wakeRelockDone true) s = .next { s with vex := { s.vex with rx := .up, rxLane := .l0, wakeLock := false } } ∧
      exec (.wakeRelockDone false) s = .next { s with vex := { s.vex with
        rx := .lock, rxLane := .l0, lanes := s.vex.lanes.map Lane.restart, retryDue := false, wakeLock := false } }) ∧
    (s.vex.own ≠ [] ∨ s.vex.retx ≠ [] → s.vex.txLane = .l1 →
      exec .ownPacketQueued s = .next { s with vex := { s.vex with out := .wakeBurst :: s.vex.out, txLane := .l0 } }) ∧
    (s.vex.txLane ≠ .l1 → exec .ownPacketQueued s = .next s) ∧
    (s.vex.restart = true →
      exec .txRestart s = .next { s with vex := { s.vex with restart := false, txLane := .l0, out := .restart :: s.vex.out } }) ∧
    (s.vex.restart = false → exec .txRestart s = .next s)

/-! ### Vexlink packets (chapter 12) -/

/-- PACKET_HEADER (R230, R239, R251 to R253): a packet being forwarded that has not ended ends in K30.7; a header that fails row 1 of Table 12-3 is discarded and counted, one at 64 hops is a loop
(EV103 where it is an ENUM of the host), one for another module or another epoch is forwarded with HOPS one higher and no other byte
changed and ends in K30.7 where it arrives so, at once on a free output and else behind what waits, one for this module alone is not;
every character error is counted for its lane, and the credit ordered sets of other modules go on unchanged.
OUTPUT_PACKET_BOUNDARY (R253, R254, R260): an own packet that has waited 20 us leaves first, but none while the forward buffer holds data;
then what waits to be forwarded; then the oldest own packet. CREDIT_SET_TIMER (R267) and STATUS_PERIOD (R263). A packet that
the module sends is host-bound and passes row 1 of Table 12-3 and its own packet check (R247 to R250).
That a header ends the open packet with K30.7, that the credit sets of other modules go on with it, and that character errors are counted with
the command that brings them are the model's choices of log 26; the other clauses that rest on a reading of the model name it in log 25. -/
def Obligations.PacketsAreRouted : Prop :=
  ∀ s : State,
    (∀ b (ends : PacketEnd) credits (errors : List (Fin 4)), s.receiving = true →
      let counted := errors ++ match ends with
        | .charError k => [k]
        | _ => []
      let others := if s.vex.txLane = .l0 then (credits.filter fun c => s.vex.addr ≠ some c.1).map fun c => VxOut.credit c.1 c.2 else []
      let u := { s with vex := { s.vex with
        fwdOpen := false, fwd := s.vex.fwd.map fun f => if f.ends = .lost then { f with ends := .k30_7 } else f
        lanes := counted.foldl (fun l k => l.modify k.val fun q => { q with errors := inc32 q.errors 1 }) s.vex.lanes
        out := others.reverse ++ ((if s.vex.fwdOpen then [VxOut.abort] else []) ++ s.vex.out) } }
      (headerBad b = true → exec (.packetHeader b ends credits errors) s = .next { u with vex := { u.vex with hdrErr := inc32 s.vex.hdrErr 1 } }) ∧
      (headerBad b = false → 64 ≤ (parseHeader b).hops →
        ((parseHeader b).hostEnum = false →
          exec (.packetHeader b ends credits errors) s = .next { u with vex := { u.vex with loops := inc32 s.vex.loops 1 } }) ∧
        ((parseHeader b).hostEnum = true →
          ∃ t, exec (.packetHeader b ends credits errors) s = .next t ∧ Safety.raised s t 103 ∧ t.vex.loops = inc32 s.vex.loops 1 ∧
            Safety.reported { u with vex := { u.vex with loops := inc32 s.vex.loops 1 } } t)) ∧
      (s.fate b = .forward ∨ s.fate b = .both →
        (s.vex.sending = .nothing → s.vex.txLane = .l0 → s.vex.fwd = [] →
          exec (.packetHeader b ends credits errors) s = .next { u with vex := { u.vex with
            fwdOpen := decide (ends = .lost), sending := .forwardedPacket
            out := (if ends = .eop ∨ ends = .lost then [] else [VxOut.abort]) ++ .forward (forwarded b) :: u.vex.out } }) ∧
        (s.vex.sending ≠ .nothing ∨ s.vex.txLane ≠ .l0 ∨ s.vex.fwd ≠ [] →
          exec (.packetHeader b ends credits errors) s = .next { u with vex := { u.vex with fwd := u.vex.fwd ++
            [⟨b, ends, s.vex.sending == .ownPacket || s.vex.fwd.any Forwarding.buffered⟩] } }) ∧
        (forwarded b).length = 16 ∧ (parseHeader (forwarded b)).hops = (parseHeader b).hops + 1 ∧
        (forwarded b).take 13 = b.take 13 ∧ (forwarded b).drop 14 = b.drop 14) ∧
      (s.fate b = .consume ∨ s.fate b = .enum → exec (.packetHeader b ends credits errors) s = .next u)) ∧
    (∀ b ends credits errors, s.receiving = false → exec (.packetHeader b ends credits errors) s = .next s) ∧
    (∀ a w f n, s.vex.addr = some a → s.pwr.link = true → s.vex.txLane = .l0 → s.vex.fwdOpen = false → n = 0 →
        s.vex.fwd.any Forwarding.buffered = false → w = true ∨ (s.vex.fwd = [] ∧ f = false) →
      (∀ r rest, s.vex.retx = r :: rest →
        exec (.outputPacketBoundary w f n) s = .next { s with vex := { s.vex with
          retx := rest, out := .packet r.wire :: s.vex.out, sending := .ownPacket } }) ∧
      (∀ x rest, s.vex.retx = [] → s.vex.own = x :: rest →
        let q := SentPacket.mk s.vex.seq a s.vex.epoch false (x.form s.vex.evSince).1
        ∃ t, exec (.outputPacketBoundary w f n) s = .next t ∧ t.vex.sending = .ownPacket ∧
          t.vex.out = .packet q.wire :: s.vex.out ∧ t.vex.seq = (s.vex.seq + 1) % 65536 ∧
          t.vex.copies = (s.vex.copies ++ [(q, false)]).drop (s.vex.copies.length + 1 - 8) ∧
          t.vex.own = (x.form s.vex.evSince).2.toList ++ rest ∧ t.vex.evSince = (if x.isEvent then 0 else s.vex.evSince) ∧
          t = { s with vex := t.vex, mgmt := t.mgmt }) ∧
      exec .creditSetTimer s = .next { s with vex := { s.vex with out := .credit a s.vex.crTotal :: s.vex.out } }) ∧
    (∀ w f n, s.pwr.link = true → s.vex.txLane = .l0 → s.vex.fwdOpen = false →
      let held := s.vex.addr = none ∨ 0 < n ∨ s.vex.fwd.any Forwarding.buffered = true ∨ (s.vex.own = [] ∧ s.vex.retx = [])
      let peak := { s.vex with forwardPeak := max s.vex.forwardPeak n }
      (∀ x rest, s.vex.fwd = x :: rest → held ∨ w = false →
        exec (.outputPacketBoundary w f n) s = .next { s with vex := { peak with
          fwd := rest, sending := .forwardedPacket, fwdOpen := decide (x.ends = .lost)
          out := (if x.ends = .eop ∨ x.ends = .lost then [] else [VxOut.abort]) ++ .forward (forwarded x.header) :: s.vex.out } }) ∧
      (s.vex.fwd = [] → held ∨ (w = false ∧ f = true) →
        exec (.outputPacketBoundary w f n) s = .next { s with vex := { peak with sending := .nothing } })) ∧
    (∀ w f n, s.pwr.link = true → s.vex.txLane ≠ .l0 ∨ s.vex.fwdOpen = true →
      exec (.outputPacketBoundary w f n) s = .next { s with vex := { s.vex with forwardPeak := max s.vex.forwardPeak n } }) ∧
    (s.vex.addr = none → exec .creditSetTimer s = .next s) ∧
    (s.up = true → s.par K.statusPeriod ≠ 0 → s.pwr.link = true →
      exec .statusPeriod s = .next { s with vex := { s.vex with
        own := s.vex.own.filter (fun q => !q.isStatus) ++ [.packet ⟨0x21, 0, 0, s.statusPayload⟩] } }) ∧
    (s.up = false ∨ s.par K.statusPeriod = 0 → exec .statusPeriod s = .next s) ∧
    (∀ q : SentPacket, q.seq < 65536 → q.addr < 64 → q.epoch < 256 → q.packet.type < 256 → q.packet.flags < 8 →
      bitOf q.packet.flags 1 = false → q.packet.tag < 2 ^ 32 → q.packet.payload.length ≤ 4096 → q.packet.payload.length % 4 = 0 →
      headerBad q.wire.header = false ∧ q.wire.payload = q.packet.payload ∧ q.wire.aborted = false ∧
        q.wire.crc = packetCrc 0x80 q.epoch q.wire.header q.wire.payload ∧
        parseHeader q.wire.header = ⟨0x80, q.addr, q.packet.type, q.packet.flags + (if q.retry then 2 else 0), q.seq,
          q.packet.payload.length, q.packet.tag, q.epoch, 0, headerCrc q.wire.header⟩)

/-- SURF_WRITE, BEAM_LINE and SURF_READ (R98, R99, R255, R257 to R259, R267): with COMP powered, a consumed write in range to a surface in SEAL mode that no
frame in composition uses is stored at its offset and leaves every other byte of surface memory alone; the surface is OPEN and the units
are released; to one that is in use it is held in the write queue; behind a write of that surface that waits for room there it waits
in the receive buffer, and its units with it. A write out of range is answered NAK RANGE and changes no byte. A read changes
no byte.
The clauses that rest on a reading of the model name it in log 13, 25, 42. -/
def Obligations.SurfacePackets : Prop :=
  ∀ (s : State) (p : VxPacket),
    let h := parseHeader p.header
    let u := Safety.heard s p
    (∀ (c : Instr) (type n off : Nat) (data : List Byte),
      (c = .surfWrite p ∧ type = 0x01 ∧ n = field p.payload 0 1 ∧ off = h.tag ∧ 4 + field p.payload 1 1 ≤ p.payload.length ∧
          field p.payload 1 1 ≤ 3 ∧ field p.payload 2 2 = 0 ∧ data = (p.payload.drop 4).take (p.payload.length - 4 - field p.payload 1 1)) ∨
        (c = .beamLine p ∧ type = 0x10 ∧ n = bits h.tag 16 8 ∧ off = bits h.tag 0 16 * (u.surfAfter n).surfPitch n ∧ bits h.tag 24 8 ≠ 0 ∧
          bits h.tag 0 16 + bits h.tag 24 8 ≤ (u.surfAfter n).surfPar n K.surfHeight ∧
          p.payload.length = bits h.tag 24 8 * (u.surfAfter n).surfPitch n ∧ (u.surfAfter n).surfIsPtc n = false ∧ data = p.payload) →
      Safety.consumes s p type → u.pwr.comp = true → u.surfLevelRefused n = false →
      ((u.surfAfter n).rangeRefused n off data.length = true →
        ∃ t, exec c s = .next t ∧ t.surf = u.surf ∧ t.vex.own.getLast? = some (.packet ⟨0x41, 0, 0, ackPayload h.seq h.type 5 0⟩) ∧
          Safety.answered { u with vex := { u.vex with crTotal := (u.vex.crTotal + unitsOf h.len) % 65536 } } t) ∧
      ((u.surfAfter n).rangeRefused n off data.length = false → u.surfNext n K.surfVerify = 0 → h.last = false → u.surf.surf.length = 64 →
        let item := Held.bytes n off data false none (off, data.length)
        (u.waitsFor n = true →
          ∃ t, exec c s = .next t ∧ t.surf = { u.surf with waiting := u.surf.waiting ++ [⟨item, unitsOf h.len, .packet none⟩] } ∧
            t.vex.crTotal = u.vex.crTotal ∧ t.tim = u.tim ∧ t.zones = u.zones) ∧
        (u.waitsFor n = false → u.inUse n = false → u.surf.queue.any (fun q => q.surface == n) = false →
          ∃ t, exec c s = .next t ∧ t.surf.mem = memWrite u.surf.mem (u.surfAddr n + off) data ∧
          (t.surface n).phase = .opened ∧ t.vex.crTotal = (u.vex.crTotal + unitsOf h.len) % 65536 ∧ t.tim = u.tim ∧ t.zones = u.zones ∧
          t.flash = u.flash ∧ t.surf.queue = u.surf.queue) ∧
        (u.waitsFor n = false → u.inUse n = true ∨ u.surf.queue.any (fun q => q.surface == n) = true → u.queueBytes + data.length ≤ 32768 → u.queueBytes < 32768 →
          ∃ t, exec c s = .next t ∧ t.surf.mem = u.surf.mem ∧ t.surf.queue = u.surf.queue ++ [item] ∧
            t.vex.crTotal = (u.vex.crTotal + unitsOf h.len) % 65536 ∧ t.tim = u.tim ∧ t.zones = u.zones))) ∧
    (∀ n len, Safety.consumes s p 0x02 → u.pwr.comp = true → p.payload.length = 8 → n = field p.payload 0 1 → n ≤ 63 → field p.payload 1 3 = 0 →
      len = field p.payload 4 4 → len ≠ 0 → h.tag + len ≤ u.surfPar n K.surfSize →
      ∃ t, exec (.surfRead p) s = .next t ∧ t = { u with vex := t.vex } ∧
        t.vex.crTotal = (u.vex.crTotal + unitsOf h.len) % 65536 ∧
        t.vex.own.getLast? = some (.delivery ⟨0x03, n, h.seq, u.surfRead n h.tag len, h.tag, h.tag + (u.surfRead n h.tag len).length⟩))

/-- COMMIT, UNKNOWN_TYPE_PACKET, HOST_NAK and ENUM (R255, R256, R264 to R266, R270): a consumed commit in READY, LIT or FALLBACK whose records are valid
waits to be bound (in FALLBACK it is coalesced in the pending slot at once, with its boxes in force), one that is not raises EV020 and is
answered NAK INVALID with the offset of its first bad record, and one while Campion
is on NAK STATE. An unknown type is counted and answered. A NAK has the packet of the epoch in force that it names sent
once more. An ENUM that arrives whole gives the module its
address and its epoch and starts SEQ and the windows anew; any is
forwarded, and ends in K30.7 where it arrives so.
The clauses that rest on a reading of the model name it in log 25, 27. -/
def Obligations.OtherPackets : Prop :=
  ∀ (s : State) (p : VxPacket),
    let h := parseHeader p.header
    let u := Safety.heard s p
    (Safety.consumes s p 0x11 → u.comp.campionOn = false → u.pwr.dev = .ready ∨ u.pwr.dev = .lit ∨ u.pwr.dev = .fallback →
      (∀ ls bs ss, parseCommit p.payload = .ok (ls, bs, ss) → u.pwr.dev ≠ .fallback →
        exec (.commit p) s = .next { u with
          vex := { u.vex with crTotal := (u.vex.crTotal + unitsOf h.len) % 65536 }
          tim := { u.tim with toBind := u.tim.toBind ++ [⟨h.tag, ls, bs, ss, false, .vexlink h.seq h.needAck h.bro, 0⟩] } }) ∧
      (∀ ls bs ss, parseCommit p.payload = .ok (ls, bs, ss) → u.pwr.dev = .fallback → u.tim.toBind = [] →
        u.flt.renderOn = true ∨ u.selectImage ≠ none → u.rally.phase ≠ .handover →
        let c : Commit := ⟨h.tag, ls, bs, ss, false, .vexlink h.seq h.needAck h.bro, u.dict.stamp⟩
        ∃ t, exec (.commit p) s = .next t ∧ t.tim.toBind = [] ∧ t.glare.hostBoxes = applyBoxes u.glare.hostBoxes bs ∧
          t.tim.pend = some (match u.tim.pend with
            | none => c
            | some p => mergeCommit p c) ∧
          Safety.raised u t (if u.tim.pend.isNone then 7 else 8) ∧ t.flt.renderOn = true ∧
          (h.needAck = true → t.vex.own.getLast? =
            some (.packet ⟨0x42, 0, 0, ackPayload h.seq 0x11 (if u.tim.pend.isNone then 2 else 3) h.tag⟩))) ∧
      (∀ off, parseCommit p.payload = .error off →
        ∃ t, exec (.commit p) s = .next t ∧ Safety.raised u t 20 ∧ t.tim = u.tim ∧
          t.vex.own.getLast? = some (.packet ⟨0x41, 0, 0, ackPayload h.seq h.type 3 off⟩))) ∧
    (Safety.consumes s p 0x11 → u.comp.campionOn = true →
      ∃ t, exec (.commit p) s = .next t ∧ t.comp.refusedNative = inc32 u.comp.refusedNative 1 ∧ t.tim = u.tim ∧
        t.vex.own.getLast? = some (.packet ⟨0x41, 0, 0, ackPayload h.seq h.type 4 0⟩)) ∧
    (∀ type, Safety.consumes s p type → creditedType type = false → type ≠ 0x40 → type ≠ 0x41 →
      ∃ t, exec (.unknownTypePacket p) s = .next t ∧ t.vex.own.getLast? = some (.packet ⟨0x41, 0, 0, ackPayload h.seq h.type 8 0⟩) ∧
        Safety.answered { u with vex := { u.vex with unknown := inc32 u.vex.unknown 1 } } t) ∧
    (Safety.consumes s p 0x41 →
      (∀ c, u.vex.copies.find? (fun c => c.1.seq == field p.payload 0 2 && c.1.epoch == u.vex.epoch && !c.2) = some c →
        exec (.hostNak p) s = .next { u with vex := { u.vex with
          copies := u.vex.copies.map fun d => if d = c then (d.1, true) else d
          retx := u.vex.retx ++ [{ c.1 with retry := true }] } }) ∧
      (u.vex.copies.find? (fun c => c.1.seq == field p.payload 0 2 && c.1.epoch == u.vex.epoch && !c.2) = none →
        exec (.hostNak p) s = .next u)) ∧
    (s.receiving = true → s.fate p.header = .enum → ∀ ends, ends ≠ .eop →
      ∃ t, exec (.enum p ends) s = .next t ∧ t.vex.addr = s.vex.addr ∧ t.vex.epoch = s.vex.epoch ∧ t.rally = s.rally ∧
        (ends ≠ .lost → s.vex.sending = .nothing → s.vex.txLane = .l0 → s.vex.fwd = [] →
          t.vex.out = .abort :: .forward (forwarded p.header) :: s.vex.out)) ∧
    (s.receiving = true → s.fate p.header = .enum → s.packetPasses p = true → h.retry = false → s.rally.phase ≠ .handover →
      ∃ t, exec (.enum p) s = .next t ∧ t.vex.addr = some h.hops ∧ t.vex.epoch = h.epoch ∧ t.vex.seq = 0 ∧ t.vex.dupUni = [] ∧
        t.vex.dupBro = [] ∧ t.vex.crTotal = 256 ∧ t.vex.lossSeen = false ∧ t.flt.packet = some s.now ∧
        t.vex.retx = s.vex.retx.map (fun r => { r with addr := h.hops, epoch := h.epoch }) ∧
        (s.vex.sending = .nothing → s.vex.txLane = .l0 → s.vex.fwd = [] → .forward (forwarded p.header) ∈ t.vex.out) ∧
        (s.vex.sending ≠ .nothing ∨ s.vex.txLane ≠ .l0 ∨ s.vex.fwd ≠ [] → ∃ b, ⟨p.header, .eop, b⟩ ∈ t.vex.fwd) ∧
        (∃ q, t.vex.own.getLast? = some (.packet q) ∧ q.type = 0x40 ∧ q.tag = h.tag ∧ q.payload.head? = some (BitVec.ofNat 8 h.hops))) ∧
    (s.receiving = true → s.fate p.header = .enum → s.packetPasses p = true → h.retry = false → s.rally.phase = .handover →
      ∃ t, exec (.enum p) s = .next t ∧ t.rally.enumLatched = some (h.hops, h.epoch, h.tag) ∧ t.vex.addr = s.vex.addr ∧
        t.vex.epoch = s.vex.epoch)

/-! ### Check values, surfaces and flash (chapters 5, 13) -/

/-- SCAN_DONE, SURFACE_VERIFY_DONE, SCRUB_CAL_PERIOD, SCRUB_SURF_PERIOD, CRCS_CMD START and ABORT (R100, R102, R276 to R280, R283): with no other scan waiting,
a scan's end reports a host request's result, takes a scrub pass to its next region, or judges the region: a first failure is looked at
again with its check value kept, a second raises EV118 and loads the region again, with EV119 where no flash copy of it is good; a START
that is refused leaves CRCS_STATUS REFUSED; a verification that passes makes its surface VALID with a new GEN and its
seal, and one that fails a check of which a look is pending FAULTY with EV019, whatever checks failed between.
That a run which fails another check is a first look of that check, that the looks of checks before it have passed and those behind it wait, and
that LAST_ERROR is 0 again after success are readings of the model (log 42). The other clauses that rest on one name it in log 33, 43. -/
def Obligations.ScansReport : Prop :=
  ∀ s : State,
    (s.chk.scan = none → exec (.scanDone []) s = .next s ∧ exec (.surfaceVerifyDone []) s = .next s) ∧
    (∀ a n p mis, s.chk.scan = some ⟨.host, a, n⟩ → s.chk.waiting = [] → s.crcsParams = some p → bits (s.par K.crcsCfg) 22 2 ≠ 1 →
      let r := crcRun p s.crcsFoldBytes (bits (s.par K.crcsCfg) 22 2) (bitOf (s.par K.crcsCfg) 21) (misread (s.crcsInput a n) mis)
      exec (.scanDone mis) s = .next { s with chk := { s.chk with
        scan := none, crcsState := r.status, crcsCause := 0, crcsCv := r.cv, crcsLen := r.len } }) ∧
    (∀ k a n, s.chk.scan = some ⟨.scrubCal k, a, n⟩ → s.chk.waiting = [] → s.pwr.comp = true → k < 514 →
      (s.scrubPasses k s.chk.cal = true → (∀ v, (ScanUser.scrubCal k, v) ∉ s.chk.looks) →
        exec (.scanDone []) s = .next { s with chk := { s.chk with
          scan := some ⟨.scrubCal (k + 1), (scrubRegion (k + 1)).1, (scrubRegion (k + 1)).2⟩ } }) ∧
      (s.scrubPasses k s.chk.cal = false → (∀ v, (ScanUser.scrubCal k, v) ∉ s.chk.looks) →
        exec (.scanDone []) s = .next { s with chk := { s.chk with
          scan := some ⟨.scrubCal k, (scrubRegion k).1, (scrubRegion k).2⟩
          looks := s.chk.looks ++ [(.scrubCal k, scrubValue k s.chk.cal)] } }) ∧
      (∀ v, s.scrubPasses k s.chk.cal = false → (ScanUser.scrubCal k, v) ∈ s.chk.looks →
        ∃ t, exec (.scanDone []) s = .next t ∧ Safety.raised s t 118 ∧ (s.regionLost k = true → Safety.raised s t 119) ∧
          t.dict.reloads = inc32 s.dict.reloads 1 ∧ t.chk.cal = s.loadRegion k s.chk.cal ∧
          t.chk.looks = s.chk.looks.filter (fun e => e.1 != .scrubCal k) ∧
          (Safety.notFailed s → t.surf = s.surf ∧ t.zones = s.zones ∧
            t.chk.scan = some ⟨.scrubCal (k + 1), (scrubRegion (k + 1)).1, (scrubRegion (k + 1)).2⟩))) ∧
    (∀ n a len mis, s.chk.scan = some ⟨.verify n, a, len⟩ → n < 64 → s.surf.surf.length = 64 → (s.surface n).phase = .verifying →
      let bs := misread (s.surfRead n 0 len) mis
      (s.verifyChecks n bs = 0 →
        ∃ t, exec (.surfaceVerifyDone mis) s = .next t ∧ (t.surface n).phase = .valid ∧ (t.surface n).sealActual = crc32c bs ∧
          (t.surface n).gen = inc32 (s.surface n).gen 1 ∧ (t.surface n).lastError = 0 ∧ t.surf.mem = s.surf.mem ∧ t.zones = s.zones) ∧
      (s.verifyChecks n bs ≠ 0 → (∀ e ∈ (s.surface n).looks, e.1 ≠ s.verifyChecks n bs) →
        ∃ t, exec (.surfaceVerifyDone mis) s = .next t ∧ (t.surface n).phase = .verifying ∧
          (t.surface n).looks = (s.surface n).looks.filter (fun e => !decide (e.1 < s.verifyChecks n bs)) ++
            [(s.verifyChecks n bs, checkValue (s.verifyChecks n bs) bs)] ∧ t.surf.mem = s.surf.mem) ∧
      (s.verifyChecks n bs ≠ 0 → (∃ e ∈ (s.surface n).looks, e.1 = s.verifyChecks n bs) →
        ∃ t, exec (.surfaceVerifyDone mis) s = .next t ∧ (t.surface n).phase = .faulty ∧ Safety.raised s t 19 ∧
          (t.surface n).lastError = s.verifyChecks n bs ∧ t.surf.mem = s.surf.mem)) ∧
    (s.chk.scan = none → s.chk.waiting = [] → s.pwr.comp = true →
      exec .scrubCalPeriod s = .next { s with chk := { s.chk with scan := some ⟨.scrubCal 0, 0x148000, 4096⟩ } }) ∧
    (∀ k a n, s.chk.scan = some ⟨.scrubCal k, a, n⟩ → exec .scrubCalPeriod s = .next s) ∧
    (s.pwr.comp = false → exec .scrubCalPeriod s = .next s ∧ exec .scrubSurfPeriod s = .next s) ∧
    (s.pwr.comp = true → ∃ t, exec .scrubSurfPeriod s = .next t ∧ t = { s with chk := t.chk } ∧
      ∀ n, n < 64 → (s.surface n).phase = .valid → ∃ j ∈ t.chk.scan.toList ++ t.chk.waiting, j.user = .scrubSurf n) ∧
    (∀ r, let m := Safety.order r K.crcsCmd 1 1
      (Safety.taken s m → s.writeError (s.access r.via).level m.index m.sub 0 m.data false = some (0x0F, 0) →
        ∃ t, exec (.crcsStart r) s = .next t ∧ Safety.answered { s with chk := { s.chk with crcsState := 7, crcsCause := 0 } } t ∧
          t.can.answered.getLast? = some (m, ⟨0xFF, 0, u8 0x0F ++ [0, 0, 0] ++ u32 0⟩, s.now)) ∧
      (Safety.accepts s m → s.crcsRefused (s.access r.via).level = false) ∧
      (Safety.accepts s m → s.par K.crcsSource ≠ 0 → s.pwr.comp = true → s.chk.scan = none → s.chk.waiting = [] →
        Safety.orderDone (.crcsStart r) s m { s with chk := { s.chk with
          crcsState := 1, crcsCause := 0, scan := some ⟨.host, s.par K.crcsStart, s.par K.crcsLength⟩ } })) ∧
    (∀ r, Safety.accepts s (Safety.order r K.crcsCmd 1 2) →
      (s.crcsBusy = false → Safety.orderDone (.crcsAbort r) s (Safety.order r K.crcsCmd 1 2) s) ∧
      (∀ a n, s.chk.scan = some ⟨.host, a, n⟩ → s.chk.waiting = [] →
        Safety.orderDone (.crcsAbort r) s (Safety.order r K.crcsCmd 1 2) { s with chk := { s.chk with
          scan := none, crcsState := 6, crcsCause := 4 } }))

/-- SURF_CMD CLOSE and CLEAR and a write of a surface's geometry (R95, R98 to R100): with COMP powered and no frame in composition using the
surface, CLOSE has it verified, CLEAR leaves it OPEN with its stored bytes as they are (the model's choice, log 11), and a changed
geometry leaves it EMPTY; while a frame uses it, the item is held and nothing else changes.
The clauses that rest on a reading of the model name it in log 42. -/
def Obligations.SurfaceOrders : Prop :=
  ∀ (s : State) (r : Req) (n : Fin 64), s.pwr.comp = true → s.waitsFor n.val = false → s.surf.surf.length = 64 →
    (∀ (c : Instr) (m : GrenzMsg) (h : Held),
      (c, m, h) ∈ [(Instr.surfCmdClose r n, Safety.writeMsg r (0x2310 + n.val) K.surfCmd (u8 1), Held.close n.val),
        (.surfCmdClear r n, Safety.writeMsg r (0x2310 + n.val) K.surfCmd (u8 2), .clear n.val)] →
      Safety.accepts s m → s.inUse n.val = true ∨ s.surf.queue.any (fun q => q.surface == n.val) = true → s.queueBytes < 32768 →
      Safety.orderDone c s m { s with surf := { s.surf with
        queue := s.surf.queue ++ [h], queuePeak := max s.surf.queuePeak (sumNat ((s.surf.queue ++ [h]).map Held.size)) } }) ∧
    (Safety.accepts s (Safety.writeMsg r (0x2310 + n.val) K.surfCmd (u8 1)) → s.inUse n.val = false →
      s.surf.queue.any (fun q => q.surface == n.val) = false → (s.surface n.val).phase = .opened →
      s.surfPar n.val K.surfVerify = 0 → s.chk.scan = none → s.chk.waiting = [] →
      Safety.orderDone (.surfCmdClose r n) s (Safety.writeMsg r (0x2310 + n.val) K.surfCmd (u8 1)) { s with
        surf := { s.surf with surf := s.surf.surf.modify n.val fun u => { u with phase := .verifying, looks := [] } }
        chk := { s.chk with scan := some ⟨.verify n.val, 0, s.surfLen n.val⟩ } }) ∧
    (Safety.accepts s (Safety.writeMsg r (0x2310 + n.val) K.surfCmd (u8 2)) → s.inUse n.val = false →
      s.surf.queue.any (fun q => q.surface == n.val) = false → s.surfPar n.val K.surfSize ≠ 0 →
      ∃ t, exec (.surfCmdClear r n) s = .next t ∧ (t.surface n.val).phase = .opened ∧ (t.surface n.val).rows = [] ∧
        t.surf.mem = s.surf.mem ∧ t.tim = s.tim ∧ t.zones = s.zones ∧ t.dict = s.dict ∧
        (∀ j, j ≠ n.val → t.surface j = s.surface j) ∧
        t.can.answered.getLast? = some (Safety.writeMsg r (0x2310 + n.val) K.surfCmd (u8 2), ⟨0x82, 0, []⟩, s.now)) ∧
    (∀ sub data, sub ≤ K.surfVerify → Safety.accepts s (Safety.writeMsg r (0x2310 + n.val) sub data) → s.inUse n.val = false →
      s.surf.queue.any (fun q => q.surface == n.val) = false → leValue data ≠ s.surfPar n.val sub →
      ∃ t, exec (.surfGeometryWrite r n sub data) s = .next t ∧ t.surfPar n.val sub = leValue data ∧ (t.surface n.val).phase = .empty ∧
        t.surf.mem = s.surf.mem ∧ t.tim = s.tim ∧ t.zones = s.zones ∧
        t.can.answered.getLast? = some (Safety.writeMsg r (0x2310 + n.val) sub data, ⟨0x82, 0, []⟩, s.now))

/-- FLASH_RECORD_WRITE (R275, R281): a record that is due is written as copy A, then as copy B from it, and is then no longer due; a copy that fails its
check once is written again, and a second failure raises EV118 and leaves the record with one good copy. A copy that is neither due
or behind the other is left alone, and nothing is written in PARK or during a hand-over (R333). Shown on GZ_STORE, whose copies carry the seal
formed of their gains, and whose gains the zones then hold as stored (R173); a copy whose seal disagrees with its gains counts as bad.
MOD_HEALTH is judged after each (R210).
The clauses that rest on a reading of the model name it in log 39. -/
def Obligations.FlashCopies : Prop :=
  ∀ s : State,
    (s.flashWorks = false → ∀ rcd c ok, exec (.flashRecordWrite rcd c ok) s = .next s) ∧
    (s.flashWorks = true →
    (1 ∈ s.flash.due → 1 ∉ s.flash.aDone →
      (∃ t : State, exec (.flashRecordWrite .gzStore .a true) s = .next t.judgeHealth ∧
        t.flash.gzStore = { s.flash.gzStore with a := .good ⟨s.zones.map Zone.gz, gzValue (s.zones.map Zone.gz)⟩ } ∧
        1 ∈ t.flash.due ∧ 1 ∈ t.flash.aDone ∧ t = { s with flash := { s.flash with
          gzStore := t.flash.gzStore, aDone := t.flash.aDone, failedOnce := t.flash.failedOnce } }) ∧
      (2 ∉ s.flash.failedOnce → exec (.flashRecordWrite .gzStore .a false) s = .next (State.judgeHealth { s with flash := { s.flash with
        gzStore := { s.flash.gzStore with a := .bad }, failedOnce := setAdd s.flash.failedOnce 2 } })) ∧
      (2 ∈ s.flash.failedOnce → ∃ t : State, exec (.flashRecordWrite .gzStore .a false) s = .next t.judgeHealth ∧ Safety.raised s t 118 ∧ 1 ∉ t.flash.due ∧
        t.flash.gzStore = { s.flash.gzStore with a := .bad })) ∧
    (∀ l, 1 ∈ s.flash.due → 1 ∈ s.flash.aDone → s.flash.gzStore.a = .good l → l.check = gzValue l.content →
      ∃ t : State, exec (.flashRecordWrite .gzStore .b true) s = .next t.judgeHealth ∧ t.flash.gzStore = ⟨.good l, .good l⟩ ∧ 1 ∉ t.flash.due ∧
        t.zones.map Zone.gz = s.zones.map Zone.gz ∧ (∀ z, z < s.zones.length → z < l.content.length → (t.zone z).stored = l.content.getD z 0) ∧
        t = { s with flash := t.flash, zones := t.zones }) ∧
    (∀ rcd c ok, recordCode rcd ∉ s.flash.due → s.copyStale rcd c = false → exec (.flashRecordWrite rcd c ok) s = .next s.judgeHealth) ∧
    (∀ l, 1 ∉ s.flash.due → s.flash.gzStore = ⟨.good l, .bad⟩ →
      (l.check = gzValue l.content →
        ∃ t : State, exec (.flashRecordWrite .gzStore .b true) s = .next t.judgeHealth ∧ t.flash.gzStore = ⟨.good l, .good l⟩ ∧ t.zones = s.zones) ∧
      (l.check ≠ gzValue l.content →
        s.flash.gz.value = none ∧ exec (.flashRecordWrite .gzStore .b true) s = .next s.judgeHealth)))

/-! ### Grenz requests (chapters 14, 15) -/

/-- WRITE (R290, R311): a request that is taken is checked in the order existence, access, level, type, state, range, then refusal, and the code of
the first check that fails is its ERROR. Nothing but the answer then changes, EV020 of a bad COMMIT_STAGE and CRCS_STATUS of a refused
START apart. -/
def Obligations.WritesAreCheckedInOrder : Prop :=
  ∀ (s : State) (r : Req) (index sub : Nat) (data : List Byte), Safety.taken s (Safety.writeMsg r index sub data) →
    let lv := (s.access r.via).level
    (∀ e, s.writeError lv index sub 0 data false = some e → e.1 ≠ 0x0B → (e.1 = 0x0F → objKey index sub = K.crcsCmd → leValue data ≠ 1) →
      ∃ t, exec (.write r index sub data) s = .next t ∧ Safety.answered s t ∧
        t.can.answered.getLast? = some (Safety.writeMsg r index sub data, ⟨0xFF, 0, u8 e.1 ++ [0, 0, 0] ++ u32 e.2⟩, s.now)) ∧
    (objFind index sub = none → s.writeError lv index sub 0 data false = some (1, 0)) ∧
    (∀ o, objFind index sub = some o →
      (o.acc = .ro → s.writeError lv index sub 0 data false = some (2, 0)) ∧
      (o.acc ≠ .ro → lv.num < o.lvl.num → s.writeError lv index sub 0 data false = some (3, o.lvl.num)) ∧
      (o.acc ≠ .ro → o.lvl.num ≤ lv.num →
        (∀ n, o.typeError (s.offsetSize index o) data.length false = some n → s.writeError lv index sub 0 data false = some (4, n)) ∧
        (o.typeError (s.offsetSize index o) data.length false = none →
          (o.apply = .inReady → s.pwr.dev ≠ .ready → s.writeError lv index sub 0 data false = some (6, s.pwr.dev.num)) ∧
          (o.apply ≠ .inReady ∨ s.pwr.dev = .ready →
            (s.rangeOk index sub 0 o data = false → s.writeError lv index sub 0 data false = some (5, 0)) ∧
            (s.rangeOk index sub 0 o data = true → s.writeError lv index sub 0 data false = s.refusal lv index sub 0 data)))))

/-- READ and WRITE (R293, R310, R314): a READ of a scalar held in MGMT answers its value and changes nothing else; one of an absent object answers
INDEX, one of a write-only object ACCESS, one of a byte string above 56 bytes TOO_LONG with its size. An accepted WRITE of a
scalar whose value alone it changes leaves it at the value written and every other object as it was, and makes PERSIST dirty where it is RWP and has changed.
The clauses that rest on a reading of the model name it in log 39. -/
def Obligations.ReadsAndWrites : Prop :=
  ∀ (s : State) (r : Req),
    (∀ index sub, Safety.taken s ⟨r, 0x01, index, sub, 0, []⟩ →
      let m : GrenzMsg := ⟨r, 0x01, index, sub, 0, []⟩
      (objFind index sub = none → ∃ t, exec (.read r index sub) s = .next t ∧ Safety.answered s t ∧
        t.can.answered.getLast? = some (m, ⟨0xFF, 0, u8 1 ++ [0, 0, 0] ++ u32 0⟩, s.now)) ∧
      (∀ o, objFind index sub = some o → (∀ d, domainOf index sub = some d → s.powered d = true) →
        (o.acc = .wo → ∃ t, exec (.read r index sub) s = .next t ∧ Safety.answered s t ∧
          t.can.answered.getLast? = some (m, ⟨0xFF, 0, u8 2 ++ [0, 0, 0] ++ u32 0⟩, s.now)) ∧
        (o.acc ≠ .wo → o.isDomain = false → ∃ t, exec (.read r index sub) s = .next t ∧ Safety.answered s t ∧
          t.can.answered.getLast? = some (m, ⟨0x81, 0, s.readObject r.via index sub o⟩, s.now)) ∧
        (o.acc ≠ .wo → o.isDomain = true → 56 < s.domainSize r.via index sub →
          ∃ t, exec (.read r index sub) s = .next t ∧ Safety.answered s t ∧
            t.can.answered.getLast? = some (m, ⟨0xFF, 0, u8 0x0C ++ [0, 0, 0] ++ u32 (s.domainSize r.via index sub)⟩, s.now)))) ∧
    (∀ index sub data o, Safety.accepts s (Safety.writeMsg r index sub data) → objFind index sub = some o → o.ty ≠ .dom → o.ty ≠ .str →
      (∀ d, domainOf index sub = some d → s.powered d = true) → blockBase index ≠ 0x2310 → blockBase index ≠ 0x2440 →
      (blockBase index = 0x4010 → sub ≠ K.evSeverity) →
      let key := objKey index sub
      let v := leValue data
      (∀ u : State, u.putSingle r.via key v = u.writePar key v) →
      ∃ t, exec (.write r index sub data) s = .next t ∧ t.par key = v ∧ (∀ j, j ≠ key → t.par j = s.par j) ∧
        (isRwp key = true → v ≠ s.par key → key ∈ t.dict.dirty) ∧
        Safety.answered { s with dict := { s.dict with vals := t.dict.vals, dirty := t.dict.dirty, dirtySince := t.dict.dirtySince } } t ∧
        t.can.answered.getLast? = some (Safety.writeMsg r index sub data, ⟨0x82, 0, []⟩, s.now)) ∧
    (∀ key ∈ [K.hbPeriod, K.hostLoss, K.bgLevel, K.headroom, K.nearLimit, K.commitPolicy, K.monitorEnable, K.wakeEnable, K.parkRetain],
      ∀ (u : State) (via : Transport) (v : Nat), u.putSingle via key v = u.writePar key v)

/-- BLOCK_READ_INIT, BLOCK_WRITE_INIT, BLOCK_SEG, BLOCK_CRC, BLOCK_ACK, ABORT and BLOCK_TIMEOUT on CAN and SVC (R294, R295): a transfer opens when none runs, a segment in place is
taken and one out of place loses its block, a block that passes moves the transfer on and one that fails is looked at once more, with the
check value of its first look kept (R341), and then ends it, and an ABORT or a gap ends it, with the read of the log that it was. On SVC
the transfer answers the latest frame of it (R379). In class 13 below SERVICE a frame of a transfer is only answered (R304).
The clauses that rest on a reading of the model name it in log 24. -/
def Obligations.BlockTransfers : Prop :=
  ∀ (s : State) (r : Req), r.via ≠ .vexlink → s.blockWaits = false →
    let ended := fun (t : Transfer) => { s with
      can := { s.can with transfer := none }
      mgmt := { s.mgmt with
        logReads := if t.isWrite = false ∧ objKey t.index t.sub = K.logRecordsObj then s.mgmt.logReads.filter fun e => e.1 != t.req.via
          else s.mgmt.logReads } }
    (∀ index sub offset length blk o, Safety.taken s ⟨r, 0x10, index, sub, 0, u32 offset ++ u32 length ++ u8 blk ++ [0, 0, 0]⟩ →
      s.can.transfer = none → objFind index sub = some o → o.acc ≠ .wo → o.isDomain = true →
      (∀ d, domainOf index sub = some d → s.powered d = true) →
      objKey index sub ≠ K.logRecordsObj → length ≠ 0 → 1 ≤ blk → blk ≤ 32 → offset + length ≤ s.domainSize r.via index sub →
      ∃ t, exec (.blockReadInit r index sub offset length blk) s = .next t ∧
        t.can.transfer = some ⟨r, index, sub, false, offset, length, ((s.domainBytes r.via index sub).drop offset).take length, 0, blk, 0, 1, [],
          false, false, none⟩ ∧
        t.can.answered.getLast? = some (⟨r, 0x10, index, sub, 0, u32 offset ++ u32 length ++ u8 blk ++ [0, 0, 0]⟩,
          ⟨0x90, 0, u32 length⟩, s.now) ∧
        Safety.answered { s with can := { s.can with transfer := t.can.transfer } } t) ∧
    (∀ index sub offset total, Safety.taken s ⟨r, 0x11, index, sub, 0, u32 offset ++ u32 total⟩ → s.can.transfer = none →
      s.initError (s.access r.via).level index sub offset total = none →
      ∃ t, exec (.blockWriteInit r index sub offset total) s = .next t ∧
        t.can.transfer = some ⟨r, index, sub, true, offset, total, [], 0, 32, 0, 1, [], false, false, none⟩ ∧
        t.can.answered.getLast? = some (⟨r, 0x11, index, sub, 0, u32 offset ++ u32 total⟩, ⟨0x91, 0, u8 32 ++ [0, 0, 0]⟩, s.now) ∧
        Safety.answered { s with can := { s.can with transfer := t.can.transfer } } t) ∧
    (∀ t seq last data, Safety.frameOf s r 0x12 t → t.isWrite = true → t.outOfOrder = false →
      (seq = t.nextSeq → seq ≤ t.blksize → data.length = min 56 (t.total - t.done - t.blockData.length) →
        last = (t.total - t.done - t.blockData.length == data.length) →
        exec (.blockSeg r seq last data) s = .next { s with can := { s.can with
          transfer := some { t with req := r, blockData := t.blockData ++ data, nextSeq := seq + 1 } } }) ∧
      (seq ≠ t.nextSeq → exec (.blockSeg r seq last data) s = .next { s with can := { s.can with
          transfer := some { t with req := r, outOfOrder := true, blockData := [] } } })) ∧
    (∀ t block c, Safety.frameOf s r 0x13 t → t.isWrite = true → t.failedOnce = false →
      (t.result block c ≠ 0 → ∃ u, exec (.blockCrc r block c) s = .next u ∧
        u.can.transfer = some { t with
          req := r, blockData := [], nextSeq := 1, outOfOrder := false, failedOnce := true
          firstCrc := if t.result block c = 1 then some (blockCheck t.index t.sub t.block t.blockData) else none } ∧
        Safety.answered { s with can := { s.can with transfer := u.can.transfer } } u) ∧
      (t.result block c = 0 → blockBase t.index ≠ 0x2310 → t.done = t.data.length → t.done + t.blockData.length < t.total →
        ∃ u, exec (.blockCrc r block c) s = .next u ∧
          u.can.transfer = some { t with
            req := r, data := t.data ++ t.blockData, done := t.done + t.blockData.length, block := t.block + 1, nextSeq := 1, blockData := [],
            outOfOrder := false, firstCrc := none } ∧
          Safety.answered { s with can := { s.can with transfer := u.can.transfer } } u)) ∧
    (∀ t block c, Safety.frameOf s r 0x13 t → t.isWrite = true → t.failedOnce = true → t.result block c ≠ 0 →
      ∃ u, exec (.blockCrc r block c) s = .next u ∧ u.can.transfer = none ∧ Safety.answered { s with can := { s.can with transfer := none } } u) ∧
    (∀ t blk f, Safety.frameOf s r 0x14 t → t.isWrite = false → t.failedOnce = false →
      (t.total ≤ t.done + t.chunk.length → objKey t.index t.sub ≠ K.logRecordsObj →
        exec (.blockAck r (t.block % 256) 0 blk f) s = .next { s with can := { s.can with transfer := none } }) ∧
      (t.done + t.chunk.length < t.total → 1 ≤ blk → blk ≤ 32 → ∃ u, exec (.blockAck r (t.block % 256) 0 blk f) s = .next u ∧
        u.can.transfer = some { t with req := r, done := t.done + t.chunk.length, block := t.block + 1, blksize := blk } ∧
        Safety.answered { s with can := { s.can with transfer := u.can.transfer } } u) ∧
      (∀ res, res ≠ 0 → ∃ u, exec (.blockAck r (t.block % 256) res blk f) s = .next u ∧
        u.can.transfer = some { t with req := r, failedOnce := true } ∧ Safety.answered { s with can := { s.can with transfer := u.can.transfer } } u)) ∧
    (∀ op, s.reaches r = true → s.rally.phase ≠ .handover → opAllowed r op = true → s.classLevelLow ⟨r, op, 0, 0, 0, []⟩ = true →
      (∀ seq last data, op = 0x12 → ∃ t, exec (.blockSeg r seq last data) s = .next t ∧ Safety.answered s t ∧ t.can.transfer = s.can.transfer) ∧
      (∀ block c, op = 0x13 → ∃ t, exec (.blockCrc r block c) s = .next t ∧ Safety.answered s t ∧ t.can.transfer = s.can.transfer) ∧
      (∀ b res blk f, op = 0x14 → ∃ t, exec (.blockAck r b res blk f) s = .next t ∧ Safety.answered s t ∧ t.can.transfer = s.can.transfer) ∧
      (∀ c, op = 0x1F → ∃ t, exec (.abort r c) s = .next t ∧ Safety.answered s t ∧ t.can.transfer = s.can.transfer)) ∧
    (∀ t c, Safety.frameOf s r 0x1F t →
      exec (.abort r c) s = .next (ended t)) ∧
    (∀ t, s.can.transfer = some t → ∃ u, exec .blockTimeout s = .next u ∧ u.can.transfer = none ∧ Safety.answered (ended t) u) ∧
    (s.can.transfer = none → exec .blockTimeout s = .next s)

/-- A read of LOG_RECORDS, REQUEST_TIME_LIMIT, PARAM_REQ and SVC_GRENZ (R262, R291, R347, R380): a log read that has records to give opens a
transfer and completes only later, so LOG_READ_INDEX stays; a request that has waited 45 ms is answered BUSY and not applied, and a block
that has ends its transfer, after which an item that waited behind it enters the write queue where it finds room (R99); a PARAM_REQ or an SVC frame that carries a READ or a WRITE is that request on its transport, and the units of a
packet whose write waits are kept (R267).
The clauses that rest on a reading of the model name it in log 20, 44. -/
def Obligations.CarriedRequests : Prop :=
  ∀ (s : State) (r : Req),
    (r.via ≠ .vexlink → Safety.taken s ⟨r, 0x10, K.logRecordsObj / 256, K.logRecordsObj % 256, 0, u32 0 ++ u32 0 ++ u8 32 ++ [0, 0, 0]⟩ →
      s.can.transfer = none →
      ∃ t, exec (.logRecords r) s = .next t ∧ (t.access r.via).logIndex = (s.access r.via).logIndex ∧ t.flash = s.flash ∧
        (s.domainBytes r.via (K.logRecordsObj / 256) (K.logRecordsObj % 256) ≠ [] →
          ∃ u, t.can.transfer = some u ∧ u.data = s.domainBytes r.via (K.logRecordsObj / 256) (K.logRecordsObj % 256) ∧
            ∃ next, (r.via, r.token, next) ∈ t.mgmt.logReads) ∧
        (s.domainBytes r.via (K.logRecordsObj / 256) (K.logRecordsObj % 256) = [] → Safety.answered s t)) ∧
    (∀ m h units, s.surf.waiting = [⟨h, units, .request m⟩] → reqChannel m.req = reqChannel r → s.can.transfer = none →
      ∃ t, exec (.requestTimeLimit r) s = .next t ∧
        t.can.answered.getLast? = some (m, ⟨0xFF, 0, u8 7 ++ [0, 0, 0] ++ u32 0⟩, s.now) ∧
        Safety.answered { s with
          surf := { s.surf with waiting := [] }
          vex := { s.vex with crTotal := if units = 0 then s.vex.crTotal else (s.vex.crTotal + units) % 65536 } } t) ∧
    (∀ t, s.can.transfer = some t → t.isWrite = true → reqChannel t.req = reqChannel r → s.blockWaits = true →
      (∀ w ∈ s.surf.waiting, w.asks r = false) →
      ∃ u, exec (.requestTimeLimit r) s = .next u ∧ u.can.transfer = none ∧ u.blockWaits = false ∧
        ((∀ w ∈ s.surf.waiting, w.who = .block) →
          Safety.answered { s with can := { s.can with transfer := none }, surf := { s.surf with waiting := [] } } u) ∧
        ∀ w, (s.surf.waiting.filter fun x => decide (x.who ≠ .block)) = [w] → s.inUse w.item.surface = true →
          s.queueBytes + w.item.size ≤ 32768 → s.queueBytes < 32768 →
          u.surf.waiting = [] ∧ u.surf.queue = s.surf.queue ++ [w.item]) ∧
    ((∀ w ∈ s.surf.waiting, w.asks r = false) → s.blockWaits = false → exec (.requestTimeLimit r) s = .next s) ∧
    (∀ p token index sub data, Safety.consumes s p 0x30 → token < 256 → index < 65536 → sub < 256 → data.length ≤ 56 →
      let h := parseHeader p.header
      let u := (Safety.heard s p).ack h.needAck h.bro h.seq h.type 0 0
      let settled := fun (w : State) => w.settle s.surf.waiting.length (unitsOf h.len)
      (p.payload = pad4 (grenzBytes 0x01 token index sub 0 0 0 []) →
        ∃ w, exec (.read ⟨.vexlink, 0, token⟩ index sub) u = .next w ∧ exec (.paramReq p) s = .next (settled w)) ∧
      (p.payload = pad4 (grenzBytes 0x02 token index sub 0 data.length ((4 - data.length % 4) % 4) data) →
        ∃ w, exec (.write ⟨.vexlink, 0, token⟩ index sub data) u = .next w ∧ exec (.paramReq p) s = .next (settled w)) ∧
      ∀ w, (settled w).surf.mem = w.surf.mem ∧ ((settled w).vex.crTotal = w.vex.crTotal ∨ w.surf.waiting.length ≤ s.surf.waiting.length)) ∧
    (∀ f token index sub data, Safety.svcTakes s f 0x01 → token < 256 → index < 65536 → sub < 256 → data.length ≤ 56 →
      (SvcFrame.payload f = grenzBytes 0x01 token index sub 0 0 0 [] →
        ∃ w, exec (.read ⟨.svc, SvcFrame.seq f, token⟩ index sub) (Safety.svcHeard s f) = .next w ∧
          exec (.svcGrenz f) s = .next (w.svcAnswered 1)) ∧
      (SvcFrame.payload f = grenzBytes 0x02 token index sub 0 data.length 0 data →
        ∃ w, exec (.write ⟨.svc, SvcFrame.seq f, token⟩ index sub data) (Safety.svcHeard s f) = .next w ∧
          exec (.svcGrenz f) s = .next (w.svcAnswered 1)))

/-! ### Access levels (chapter 14) -/

/-- UNLOCK_REQ, UNLOCK_RESP and UNLOCK_TIMEOUT (R305): a challenge ends with UNLOCK_COUNT, which it has increased and which is to be written
to flash; its encryption under the level's key raises the transport's level; any other response voids it, and the third mismatch in a row
bars UNLOCK_REQ for 60 s.
The clauses that rest on a reading of the model name it in log 22. -/
def Obligations.SessionsAreKeyed : Prop :=
  ∀ (s : State) (r : Req),
    let a := s.access r.via
    (∀ level, let m : GrenzMsg := ⟨r, 0x20, 0, 0, 0, u8 level ++ [0, 0, 0]⟩
      Safety.taken s m →
      (s.now < s.mgmt.lockUntil → ∃ t, exec (.unlockReq r level) s = .next t ∧ Safety.answered s t ∧
        t.can.answered.getLast? = some (m, ⟨0xFF, 0, u8 0x0E ++ [0, 0, 0] ++ u32 ((s.mgmt.lockUntil - s.now + 999999) / 1000000)⟩, s.now)) ∧
      (s.mgmt.lockUntil ≤ s.now → level = 1 ∨ level = 2 → ∃ t c, exec (.unlockReq r level) s = .next t ∧
        c.length = 16 ∧ c.drop 12 = u32 (inc32 s.flash.unlockCount 1) ∧ t.flash.unlockCount = inc32 s.flash.unlockCount 1 ∧
        t.flash = { s.flash with
          unlockCount := t.flash.unlockCount, due := setAdd s.flash.due 16, aDone := t.flash.aDone, failedOnce := t.flash.failedOnce } ∧
        t.access r.via = { a with challenge := some (level, c) } ∧ (∀ v, v ≠ r.via → t.access v = s.access v) ∧
        Safety.answered { s with flash := t.flash, mgmt := t.mgmt, free := t.free } t ∧
        t.can.answered.getLast? = some (m, ⟨0xA0, 0, c⟩, s.now)) ∧
      (s.mgmt.lockUntil ≤ s.now → level ≠ 1 → level ≠ 2 → ∃ t, exec (.unlockReq r level) s = .next t ∧ Safety.answered s t ∧
        t.can.answered.getLast? = some (m, ⟨0xFF, 0, u8 5 ++ [0, 0, 0] ++ u32 0⟩, s.now))) ∧
    (∀ level response, let m : GrenzMsg := ⟨r, 0x21, 0, 0, 0, u8 level ++ [0, 0, 0] ++ response⟩
      Safety.taken s m →
      (a.challenge = none → ∃ t, exec (.unlockResp r level response) s = .next t ∧ Safety.answered s t ∧
        t.can.answered.getLast? = some (m, ⟨0xFF, 0, u8 0x0F ++ [0, 0, 0] ++ u32 0⟩, s.now)) ∧
      (∀ c, a.challenge = some (level, c) → level = 1 ∨ level = 2 → aes256 (s.keyOf level) c = response →
        ∃ t, exec (.unlockResp r level response) s = .next t ∧ t.mgmt.mismatches = 0 ∧ t.mgmt.lockUntil = s.mgmt.lockUntil ∧
          (t.access r.via).challenge = none ∧ (t.access r.via).level.num = max a.level.num level ∧
          (∀ v, v ≠ r.via → t.access v = s.access v) ∧ Safety.answered { s with mgmt := t.mgmt } t ∧
          t.can.answered.getLast? = some (m, ⟨0xA1, 0, u8 level⟩, s.now)) ∧
      (∀ l c, a.challenge = some (l, c) → (l ≠ level ∨ aes256 (s.keyOf l) c ≠ response) →
        ∃ t, exec (.unlockResp r level response) s = .next t ∧ t.access r.via = { a with challenge := none } ∧
          (∀ v, v ≠ r.via → t.access v = s.access v) ∧
          (t.mgmt.mismatches, t.mgmt.lockUntil) =
            (if s.mgmt.mismatches + 1 < 3 then (s.mgmt.mismatches + 1, s.mgmt.lockUntil) else (0, s.now + 60000000)) ∧
          Safety.answered { s with mgmt := t.mgmt } t ∧
          t.can.answered.getLast? = some (m, ⟨0xFF, 0, u8 0x0F ++ [0, 0, 0] ++ u32 0⟩, s.now))) ∧
    (∃ t, exec (.unlockTimeout r.via) s = .next t ∧ t.access r.via = { a with challenge := none } ∧
      (∀ v, v ≠ r.via → t.access v = s.access v) ∧ t = { s with mgmt := t.mgmt })

/-- A raised level returns to USER at LOCK, at every whole-module reset, on entry to PARK, after ACCESS_IDLE_S, and for CAN at bus-off; the end of an
INTEGRATOR session stops injection (R306). LOCK and ACCESS_IDLE_S end no other transport's session and change nothing else; that the end of a
session below INTEGRATOR leaves the injection as it was is a reading of the model (log 22, DEDUCED). -/
def Obligations.LevelsReturnToUser : Prop :=
  ∀ (s : State) (r : Req),
    let a := s.access r.via
    (∀ c, c = Instr.lock r ∧ Safety.taken s ⟨r, 0x22, 0, 0, 0, []⟩ ∨ c = .accessIdleTimeout r.via →
      ∃ t, exec c s = .next t ∧ t.access r.via = { a with level := .user } ∧ (∀ v, v ≠ r.via → t.access v = s.access v) ∧
        Safety.told (s.onAccess r.via fun b => { b with level := .user }) t ∧
        (a.level = .integrator → t.sup.injecting = false ∧ t.sup.injArmed = false) ∧
        (a.level ≠ .integrator → t.sup = s.sup)) ∧
    (∀ torn, ∀ c ∈ [Instr.powerOnReset torn, .brownOut, .resetN, .dictionaryResetAssert, .watchdogService, .watchdogExpiry,
        .lockstepDifference],
      ∀ t, exec c s = .next t → s.pwr.life ≠ .inReset → t.pwr.life = .inReset →
        (t.access r.via).level = .user ∧ t.sup.injecting = false ∧ t.sup.injArmed = false) ∧
    (∀ w lv t, exec (.sleepGo w lv) s = .next t → s.pwr.dev ≠ .park → t.pwr.dev = .park →
      (t.access r.via).level = .user ∧ (a.level = .integrator → t.sup.injecting = false ∧ t.sup.injArmed = false)) ∧
    (s.up = true → s.can.busOff = false → ∃ t, exec .canBusOff s = .next t ∧ (t.access .can).level = .user ∧
      ((s.access .can).level = .integrator → t.sup.injecting = false ∧ t.sup.injArmed = false))


/-! ### The CAN port (chapter 14) -/

/-- SYNC, HEARTBEAT and EVENT_FRAME_TIMER (R286, R296, R297, R299): a SYNC of the module's group binds the staged commit with the SYNC's TAG, or
discards it with COMMIT_RESULT STATE, and clears it; a heartbeat counts and leaves with the 16 bytes of Table 14-6; the oldest queued EVENT
frame leaves with its 24 bytes, each with ESI set while the controller is error-passive (R284). Header TOKEN and INDEX of COMMIT_RESULT and
heartbeats read 0, the model's choice (log 37); DROPPED is shown as the count saturated at 255 (log 40); that heartbeat and EVENT frames leave
at once is a reading of the model (log 23); and the steps of the error counters, with the two errors that count nothing, are those of
ISO 11898-1, presumed (log 48). -/
def Obligations.CanFramesLeave : Prop :=
  ∀ s : State, s.up = true → s.can.busOff = false →
    (∀ group tag, group = s.par K.syncGroup → s.comp.campionOn = true → s.syncExternal = false → exec (.sync group tag) s = .next s) ∧
    (∀ group tag, group = s.par K.syncGroup → s.comp.campionOn = false →
      (s.can.stageCommit = none → exec (.sync group tag) s = .next s) ∧
      (∀ c, s.can.stageCommit = some c →
        (s.pwr.dev ≠ .ready → s.pwr.dev ≠ .lit → s.pwr.dev ≠ .fallback →
          ∃ t, exec (.sync group tag) s = .next t ∧
            t = { s with can := { s.can with stage := none, stageCommit := none, out := t.can.out } } ∧
            (s.can.muted = false → t.can.out =
              { grenzFrame 9 s.can.addr 0x60 0 0 0 0 (u32 (tag % 2 ^ 32) ++ u8 4 ++ [0, 0, 0]) with esi := s.canPassive } :: s.can.out)) ∧
        (s.pwr.dev = .ready ∨ s.pwr.dev = .lit → s.mayCompose = true → s.tim.work = none → s.tim.pend = none → c.campion = false →
          ∃ t f, exec (.sync group tag) s = .next t ∧ t.can.stage = none ∧ t.can.stageCommit = none ∧
            t.tim = { s.tim with
              pend := none, work := some f, loadRow := none, loadDone := false, reload := false, lastLoaded := none } ∧
            f.kind = .committed ∧ f.tag = tag % 2 ^ 32 ∧ f.commit = some { c with tag := tag % 2 ^ 32, source := .sync, stamp := s.dict.stamp } ∧
            t.zones = s.zones ∧ t.surf = s.surf ∧ t.pwr = s.pwr ∧
            (s.can.muted = false →
              { grenzFrame 9 s.can.addr 0x60 0 0 0 0 (u32 (tag % 2 ^ 32) ++ u8 1 ++ [0, 0, 0]) with esi := s.canPassive } ∈ t.can.out)))) ∧
    (∀ group tag, group ≠ s.par K.syncGroup → exec (.sync group tag) s = .next s) ∧
    (∀ n, n = (s.can.hbCount + 1) % 65536 →
      let shown := s.rally.hbHeld.getD (s.pwr.dev.num, s.flt.health)
      exec (.heartbeat []) s = .next { s with can := { s.can with
        hbCount := n
        out := { grenzFrame 12 s.can.addr 0x50 0 0 0 0
          (u8 shown.1 ++ u8 shown.2 ++ u8 s.beatFlags ++ u8 (s.vex.addr.getD 0xFF) ++ u8 s.pwr.role ++ u8 s.vex.epoch ++ u16 n ++
            u32 s.tim.displayedTag ++ u32 s.tim.frameCount) with esi := s.canPassive } :: s.can.out } }) ∧
    (∀ bus : List CanBusEvent, (∀ e ∈ bus, e = .rxError ∨ e = .txError) → s.can.recErr + bus.count .rxError ≤ 65535 →
      s.can.tecErr + 8 * bus.count .txError ≤ 255 →
      ∃ t, exec (.heartbeat bus) s = .next t ∧ t.can.recErr = s.can.recErr + bus.count .rxError ∧
        t.can.tecErr = s.can.tecErr + 8 * bus.count .txError ∧ t.can.busOff = false ∧
        t.can.out.head?.map CanOut.esi = some (decide (127 < t.can.tecErr) || decide (127 < t.can.recErr)) ∧
        t = { s with can := { s.can with
          hbCount := (s.can.hbCount + 1) % 65536, out := t.can.out, recErr := t.can.recErr, tecErr := t.can.tecErr } }) ∧
    (255 < s.can.tecErr + 8 → ∃ t, exec (.heartbeat [.txError]) s = .next t ∧ t.can.busOff = true ∧ Safety.raised s t 99 ∧
      t.can.out = s.can.out) ∧
    exec (.heartbeat [.arbStuffError]) s = exec (.heartbeat []) s ∧
    exec (.heartbeat [.passiveAckError]) s = exec (.heartbeat (if s.canPassive then [] else [.txError])) s ∧
    (s.can.evQueue = [] → exec .eventFrameTimer s = .next s) ∧
    ∀ e rest, s.can.evQueue = e :: rest → exec .eventFrameTimer s = .next { s with can := { s.can with
      evQueue := rest, evSince := 0
      out := { grenzFrame 0 s.can.addr 0x40 (field e 0 1) (0x4010 + field e 13 1) 0x06 0
        (u8 (field e 13 1) ++ u8 (field e 14 1) ++ u8 (field e 15 1 % 4) ++ u8 (min s.can.evSince 255) ++ (e.drop 4).take 8 ++
          (e.drop 24).take 12) with esi := s.canPassive } :: s.can.out } }

/-- CAN_BUS_OFF, BUS_OFF_RECOVERED, CAN_CMD_RECOVER, STRANGER_FRAME, MALFORMED_FRAME, ADDR_CLASH and CAN_ADDR_APPLY (R288, R301 to R303,
R306): a bus-off raises EV099, ends the CAN session and recovers by itself where fewer than 3 automatic recoveries came within 60 s; strangers
and malformed frames are counted and nothing else, and a well-formed request whose class does not allow its OP is REFUSED; the first clash
raises EV100 and mutes; a new address waits for the request in progress.
The clauses that rest on a reading of the model name it in log 23. -/
def Obligations.CanControllerAndAddress : Prop :=
  ∀ s : State,
    (s.up = true → s.can.busOff = false →
      let auto := decide ((s.can.recoveredAt.filter fun t => decide (s.now < t + 60000000)).length < 3)
      ∃ t, exec .canBusOff s = .next t ∧ Safety.raised s t 99 ∧ t.mgmt.can.level = .user ∧ t.can.busOff = true ∧ t.can.recovering = auto ∧
        t.can.busOffs = inc32 s.can.busOffs 1 ∧ t.can.recoveries = (if auto then inc32 s.can.recoveries 1 else s.can.recoveries) ∧
        Safety.told { s with
          can := { s.can with
            busOff := t.can.busOff, tecErr := t.can.tecErr, busOffs := t.can.busOffs, recovering := t.can.recovering,
            recoveries := t.can.recoveries, recoveredAt := t.can.recoveredAt }
          mgmt := { s.mgmt with can := { s.mgmt.can with level := .user } } } t) ∧
    (s.can.recovering = true → ∃ t, exec .busOffRecovered s = .next t ∧ t.can.busOff = false ∧ t.can.recovering = false ∧
      t = { s with can := { s.can with busOff := false, recovering := false, tecErr := t.can.tecErr, recErr := t.can.recErr } }) ∧
    (s.can.recovering = false → exec .busOffRecovered s = .next s) ∧
    (∀ r, Safety.accepts s (Safety.order r K.canCmd 1 1) →
      Safety.orderDone (.canCmdRecover r) s (Safety.order r K.canCmd 1 1)
        { s with can := { s.can with recovering := s.can.recovering || s.can.busOff } }) ∧
    (∀ f, s.up = true → s.can.busOff = false →
      (f.extended = true ∨ f.remote = true ∨ 0x3C0 ≤ f.id →
        exec (.strangerFrame f) s = .next { s with can := { s.can with strangers := inc32 s.can.strangers 1 } }) ∧
      (f.extended = false → f.remote = false → f.id < 0x3C0 → s.concerns f = true →
        (f.fd = false ∨ f.data.length < 8 ∨ 56 < field f.data 6 1 ∨ f.data.length - 8 < field f.data 6 1 ∨ field f.data 7 1 ≠ 0 ∨
            reservedClear f.data = false ∨ opFits (f.id / 64) (field f.data 0 1) = false →
          exec (.malformedFrame f) s = .next { s with can := { s.can with malformed := inc32 s.can.malformed 1 } }) ∧
        (malformedBytes f = false → CanFrame.misplaced f = false → exec (.malformedFrame f) s = .next s) ∧
        (malformedBytes f = false → CanFrame.misplaced f = true →
          s.reaches (CanFrame.message f).req = true → s.rally.phase ≠ .handover → s.storedAnswer (CanFrame.message f) = none →
          s.inProgress (CanFrame.message f).req = false →
          (opAllowed (CanFrame.message f).req (CanFrame.message f).op = true → s.classLevelLow (CanFrame.message f) = false) →
          ∃ t, exec (.malformedFrame f) s = .next t ∧ Safety.answered s t ∧
            t.can.answered.getLast? = some (CanFrame.message f, ⟨0xFF, 0, u8 0x0F ++ [0, 0, 0] ++ u32 0⟩, s.now)))) ∧
    (∀ id, s.up = true → s.can.busOff = false → id / 64 ∈ [0, 6, 7, 8, 9, 11, 12] → id % 64 = s.can.addr →
      let u := { s with can := { s.can with clashes := inc32 s.can.clashes 1, muted := true } }
      (s.can.muted = false → ∃ t, exec (.addrClash id) s = .next t ∧ Safety.raised s t 100 ∧ Safety.reported u t) ∧
      (s.can.muted = true → exec (.addrClash id) s = .next u)) ∧
    (∀ a, s.can.newAddr = some a →
      (s.requestsWaiting = [] → s.can.transfer = none →
        exec .canAddrApply s = .next { s with can := { s.can with addr := a, newAddr := none } }) ∧
      (s.requestsWaiting ≠ [] ∨ s.can.transfer ≠ none → exec .canAddrApply s = .next s))


/-! ### The SVC port and staging (chapter 20) -/

/-- IMG_BEGIN, IMG_DATA, IMG_END, IMG_ABORT, SVC_TRANSFER_SILENCE and SVC_IDLE_DISCARD (R378, R381 to R386): IMG_BEGIN answers the first check that fails, and
opens a transfer over the erased slot of the new bank; parts are taken in order; a chunk whose tag holds is stored under K_DEV with its
storage tag, one that fails is looked at once more and then ends the transfer with EV116; IMG_END stages the image with its sealed record
in copies A and B (R275, R281); a write of flash that
fails, copy A or B of the record after its second try among them (EV118), ends the transfer with FLASH; a transfer that ends otherwise leaves the slot erased, and its record to be written. What is stored decrypts to what was sealed.
The clauses that rest on a reading of the model name it in log 21. -/
def Obligations.ImagesAreStaged : Prop :=
  ∀ (s : State) (f : SvcFrame),
    let b := SvcFrame.payload f
    let u := Safety.svcHeard s f
    let r := s.rally
    let said := fun (t : State) (type code : Nat) =>
      t.rally.svcLast = some (SvcFrame.seq f, some (svcFrame s.can.addr type (SvcFrame.seq f) (u8 code ++ [0, 0, 0] ++ [])))
    let running := fun (t : State) => t.rally.bankB = r.bankB ∧ t.slotOfBank r.bankB = s.slotOfBank r.bankB
    let recorded := fun (t : State) => t.flash = { s.flash with
      due := t.flash.due, aDone := t.flash.aDone, failedOnce := t.flash.failedOnce, storing := t.flash.storing }
    let erased := fun (t : State) => running t ∧ (t.slotOfBank (!r.bankB)).state = .empty ∧ (12 + b2n (!r.bankB)) ∈ t.flash.due ∧ recorded t
    let told := fun (t : State) => Safety.told { u with rally := { t.rally with svcLast := u.rally.svcLast }, flash := t.flash } t
    let ended := fun (t : State) => running t ∧ t.rally.transfer = false ∧
      (r.transfer = true → erased t ∧ t.rally.newChunks = [] ∧ Safety.answered { u with rally := t.rally, flash := t.flash } t) ∧
      (r.transfer = false → Safety.answered u t)
    let allowed := s.mgmt.svc.level = .service ∧ (r.phase = .idle ∨ r.phase = .staged)
    (Safety.svcTakes s f 0x10 →
      (s.mgmt.svc.level ≠ .service → ∃ t, exec (.imgBegin f) s = .next t ∧ said t 0x10 3 ∧ ended t) ∧
      (s.mgmt.svc.level = .service → r.phase ≠ .idle → r.phase ≠ .staged →
        ∃ t, exec (.imgBegin f) s = .next t ∧ said t 0x10 4 ∧ ended t) ∧
      (allowed → headerOk b = false → ∃ t, exec (.imgBegin f) s = .next t ∧ said t 0x10 6 ∧ ended t) ∧
      (allowed → headerOk b = true → field b 12 4 < s.flash.rollback →
        ∃ t, exec (.imgBegin f) s = .next t ∧ said t 0x10 8 ∧ ended t) ∧
      (allowed → headerOk b = true → s.flash.rollback ≤ field b 12 4 →
        ∃ t, exec (.imgBegin f) s = .next t ∧ said t 0x10 (if signatureOk b then 0 else 7) ∧
          (signatureOk b = false → ended t) ∧
          (signatureOk b = true → erased t ∧ t.rally.transfer = true ∧ t.rally.newHeader = b.take 256 ∧ t.rally.newTags = tagTable b ∧
            t.rally.chunk = 0 ∧ t.rally.part = 0 ∧ t.rally.newChunks = [] ∧ t.rally.coldPending = false ∧
            Safety.answered { u with rally := t.rally, flash := t.flash } t))) ∧
    (Safety.svcTakes s f 0x11 → allowed →
      let all := r.chunkData ++ b.drop 4
      let size := chunkSize (field r.newHeader 16 4) r.chunk
      (r.transfer = false → ∀ w, ∃ t, exec (.imgData f w) s = .next t ∧ said t 0x11 4 ∧ Safety.answered u t) ∧
      (r.transfer = true → r.partFits b = false → ∀ w, ∃ t, exec (.imgData f w) s = .next t ∧ said t 0x11 5 ∧ ended t) ∧
      (r.transfer = true → r.partFits b = true → all.length < size → ∀ w,
        ∃ t, exec (.imgData f w) s = .next t ∧ said t 0x11 0 ∧
          Safety.answered (u.onRally fun q => { q with part := r.part + 1, chunkData := all }) t) ∧
      (r.transfer = true → r.partFits b = true → size ≤ all.length → ∀ w,
        ∃ t, exec (.imgData f w) s = .next t ∧
          (let opened := openChunk r.newHeader r.chunk all
            let plain := opened.1
            (opened.2 = r.newTags.getD r.chunk [] → running t ∧
                (w = true → said t 0x11 0 ∧ t.rally.transfer = true ∧ t.rally.chunk = r.chunk + 1 ∧ t.rally.part = 0 ∧
                  t.rally.chunkData = [] ∧ t.rally.chunkLook = none ∧
                  t.rally.newChunks = r.newChunks ++ [(gcmSeal keyDev (storeNonce (!r.bankB) s.newGen r.chunk) [] plain).1] ∧
                  t.rally.newStored = r.newStored ++ [(gcmSeal keyDev (storeNonce (!r.bankB) s.newGen r.chunk) [] plain).2] ∧
                  Safety.told { u with rally := { u.rally with
                    chunk := t.rally.chunk, part := t.rally.part, chunkData := t.rally.chunkData, chunkLook := t.rally.chunkLook,
                    newChunks := t.rally.newChunks, newStored := t.rally.newStored } } t) ∧
                (w = false → said t 0x11 10 ∧ t.rally.transfer = false ∧ erased t ∧ told t)) ∧
            (opened.2 ≠ r.newTags.getD r.chunk [] → said t 0x11 9 ∧
                (r.chunkLook = none → Safety.answered (u.onRally fun q => { q with part := 0, chunkData := [], chunkLook := some opened.2 }) t) ∧
                (r.chunkLook ≠ none → t.rally.transfer = false ∧ erased t ∧ Safety.raised s t 116 ∧ told t))))) ∧
    (Safety.svcTakes s f 0x12 → allowed → r.transfer = true →
      (r.newChunks.length < r.newTags.length → ∀ w, ∃ t, exec (.imgEnd f w) s = .next t ∧ said t 0x12 5 ∧ ended t) ∧
      (r.newTags.length ≤ r.newChunks.length →
        let gen := inc32 (s.slotOfBank (!r.bankB)).storeGen 1
        let rcd : SlotRecord := ⟨.staged, r.newHeader, r.newTags, r.newStored, gen⟩
        let good := FlashCopy.good (Sealed.mk rcd (slotValue rcd))
        (∀ fails : CopyFails, fails.a ≠ 2 → fails.b ≠ 2 →
          ∃ t, exec (.imgEnd f true fails) s = .next t ∧ said t 0x12 0 ∧ running t ∧ t.rally.phase = .staged ∧ t.rally.transfer = false ∧
            t.slotOfBank (!r.bankB) = ⟨.staged, r.newHeader, r.newTags, r.newChunks, r.newStored, gen,
              ⟨good, good⟩⟩ ∧ (12 + b2n (!r.bankB)) ∉ t.flash.due ∧ recorded t ∧ told t) ∧
        (∀ w fails, w = false ∨ fails.a = 2 ∨ fails.b = 2 → ∃ t, exec (.imgEnd f w fails) s = .next t ∧ said t 0x12 10 ∧ t.rally.transfer = false ∧
          erased t ∧ Safety.raised s t 118 ∧ told t))) ∧
    (∀ key nonce aad p : List Byte, key.length = 32 → nonce.length = 12 →
      gcmOpen key nonce aad (gcmSeal key nonce aad p).1 = (p, (gcmSeal key nonce aad p).2)) ∧
    (Safety.svcTakes s f 0x1F → allowed → r.transfer = true → ∃ t, exec (.imgAbort f) s = .next t ∧ said t 0x1F 0 ∧ ended t) ∧
    (∃ t, exec .svcTransferSilence s = .next t ∧ running t ∧ t.rally.transfer = false ∧ t = { s with rally := t.rally, flash := t.flash } ∧
      (r.transfer = true → erased t) ∧ (r.transfer = false → t = s)) ∧
    exec .svcIdleDiscard s = .next { s with rally := { r with svcBuf := [] } }


/-! ### Updates (chapter 20) -/

/-- UPDATE_ACTIVATE, UPDATE_ACTIVATE_COLD, UPDATE_DISCARD and BANK_LOAD_DONE (R387, R393): ACTIVATE loads the new bank, ACTIVATE_COLD sets COLD_PENDING, DISCARD
erases the slot of an image that was staged, and no other; a load that passes leaves the decrypted image in the memory of its bank, of that bank alone, and waits for the
hand-over, one that fails raises EV116 and marks the slot REJECTED.
That DISCARD erases a REJECTED image too, and nothing in the other states, is a reading of the model (log 21). The other clauses that rest on a reading of the model name it in log 19. -/
def Obligations.UpdatesAreCommanded : Prop :=
  ∀ (s : State) (r : Req),
    let y := s.rally
    (Safety.accepts s (Safety.order r K.updateCmd 1 1) → y.loaded = false →
      Safety.orderDone (.updateActivate r) s (Safety.order r K.updateCmd 1 1) { s with rally := { y with loading := true } }) ∧
    (Safety.accepts s (Safety.order r K.updateCmd 1 2) →
      Safety.orderDone (.updateActivateCold r) s (Safety.order r K.updateCmd 1 2) { s with rally := { y with coldPending := true } }) ∧
    (Safety.accepts s (Safety.order r K.updateCmd 1 3) →
      let st := (s.slotOfBank (!y.bankB)).state
      ∃ u, Safety.orderDone (.updateDiscard r) s (Safety.order r K.updateCmd 1 3) u ∧ u = { s with rally := u.rally, flash := u.flash } ∧
        u.rally.coldPending = false ∧ u.rally.phase = .idle ∧ u.rally.outcome = 4 ∧
        u.rally.bankB = y.bankB ∧ u.slotOfBank y.bankB = s.slotOfBank y.bankB ∧
        (st = .staged ∨ st = .rejected → (u.slotOfBank (!y.bankB)).state = .empty ∧ u.rally.loading = false ∧ u.rally.loaded = false ∧
          (12 + b2n (!y.bankB)) ∈ u.flash.due ∧
          u.flash = { s.flash with due := u.flash.due, aDone := u.flash.aDone, failedOnce := u.flash.failedOnce }) ∧
        (st ≠ .staged → st ≠ .rejected → u.slotOfBank (!y.bankB) = s.slotOfBank (!y.bankB) ∧ u.flash = s.flash)) ∧
    (y.loading = true →
      let u := (s.fillBank (!y.bankB)).onRally fun r => { r with loading := false, loaded := true }
      exec (.bankLoadDone (.passed [])) s = .next u ∧
      (if y.bankB then u.rally.bankMemA = y.slotA.image false ∧ u.rally.bankMemB = y.bankMemB
        else u.rally.bankMemB = y.slotB.image true ∧ u.rally.bankMemA = y.bankMemA) ∧
      (∀ l, ∃ t, exec (.bankLoadDone (.passed l)) s = .next t ∧ Safety.reported u t) ∧
      ∀ chunk, ∃ t, exec (.bankLoadDone (.failed chunk)) s = .next t ∧ Safety.raised s t 116 ∧ t.rally.loading = false ∧
        t.rally.phase = .idle ∧
        t.rally.outcome = 2 ∧ t.rally.bankB = y.bankB ∧ t.slotOfBank y.bankB = s.slotOfBank y.bankB ∧
        t.slotOfBank (!y.bankB) = { s.slotOfBank (!y.bankB) with state := .rejected } ∧ (12 + b2n (!y.bankB)) ∈ t.flash.due ∧
        Safety.reported { s with rally := t.rally, flash := t.flash } t ∧ t.flash.log = s.flash.log) ∧
    (y.loading = false → ∀ load, exec (.bankLoadDone load) s = .next s)

/-- HANDOVER_QUIESCE, HANDOVER_RESUME, COLD_ACTIVATION_RESUME, RALLY_REVERT and PROBATION_END (R383, R388 to R393): the quiesce ends a
block transfer and a pending cold activation, writes the sealed record (Tables 20-6, 20-7) into the memory of the old bank and holds the
watchdog window open; a record whose version lies outside the READ range of the new image, or whose seal fails, is refused; an accepted
record resumes the new bank in PROBATION, a refused one triggers the revert; the old bank then runs with every transport at USER, EV115, and
EV120 where STANDBY is in force (R338): after a refusal as it stands; after a crash from its own record, with PERSIST read back and what the
record carries in force again (Table 20-7); and without a record that holds from flash records alone; the end of probation raises ROLLBACK_COUNTER, makes the slot ACTIVE and
selects it, and raises EV114.
The clauses that rest on a reading of the model name it in log 19. -/
def Obligations.BanksAreHandedOver : Prop :=
  ∀ s : State,
    let y := s.rally
    let idle := y.heldFallback = [] ∧ s.flt.renderHeld = false ∧ y.enumLatched = none
    let refused := fun (reason : Nat) => { s with
      rally := { y with
        phase := .handover, reason := reason
        hbHeld := if y.hbHeld.isNone then some (s.pwr.dev.num, s.flt.health) else y.hbHeld }
      pwr := { s.pwr with held := enumAdd s.pwr.held .rallyRevert } }
    let resumed := fun (q : Rally) => { s with
      rally := { q with phase := .probation, bankB := !y.bankB, heldFallback := [], enumLatched := none, hbHeld := none }
      mgmt := { s.mgmt with wdHeld := false, wdLast := some s.now } }
    let readBack := fun (q : PersistRecord) =>
      (q.vals.foldl (fun m e => setPar m e.1 e.2) (s.dict.vals.filter fun e => !isRwp e.1),
        q.doms.foldl (fun m e => kvSet m e.1 e.2) (s.dict.doms.filter fun e => !isRwp e.1))
    (y.loaded = true → y.phase = .staged → ∃ t, exec .handoverQuiesce s = .next t ∧ t.rally.phase = .handover ∧ t.rally.loaded = false ∧
      t.rally.quiesced = s.now ∧ t.rally.hbHeld = some (s.pwr.dev.num, s.flt.health) ∧ t.rally.coldPending = false ∧ t.can.transfer = none ∧
      t.rally.fromVersion = (s.slotOfBank y.bankB).version ∧ t.rally.toVersion = (s.slotOfBank (!y.bankB)).version ∧
      t.mgmt = { s.mgmt with wdHeld := true, logReads := t.mgmt.logReads } ∧ t.rally.bankB = y.bankB ∧ t.rally.slotA = y.slotA ∧ t.rally.slotB = y.slotB ∧
      (let b := t.rally.recordOf y.bankB;
        b.take 12 = u32 0x52454448 ++ u16 (s.slotOfBank y.bankB).hrecWrite ++ u16 7 ++ u32 b.length ∧
        (b.drop 12).take 20 = u32 (s.slotOfBank y.bankB).version ++ u32 (s.slotOfBank (!y.bankB)).version ++ u64 s.now ++
          u32 s.flash.bootCount ∧
        judgeContent b = .accepted ∧ t.rally.recordOf (!y.bankB) = y.recordOf (!y.bankB)) ∧
      (∃ c, t.rally.carried = some c ∧ c.seq = s.vex.seq ∧ c.dupUni = s.vex.dupUni ∧ c.dupBro = s.vex.dupBro ∧ c.fbCauses = s.flt.fbCauses ∧
        c.addr = s.vex.addr ∧ c.epoch = s.vex.epoch ∧ c.mismatches = s.mgmt.mismatches ∧ c.lockUntil = s.mgmt.lockUntil) ∧
      (s.blockWaits = false → Safety.answered { s with
        rally := t.rally, mgmt := t.mgmt, can := { s.can with transfer := none }, free := s.free + 1 } t)) ∧
    (y.loaded = false ∨ y.phase ≠ .staged → exec .handoverQuiesce s = .next s) ∧
    (y.phase = .handover → s.pwr.held.contains .rallyRevert = false →
      ((s.slotOfBank (!y.bankB)).readsRecord (y.recordOf y.bankB) = false → s.recordVerdict = .version) ∧
      ((s.slotOfBank (!y.bankB)).readsRecord (y.recordOf y.bankB) = true →
        (recordSealHolds (y.recordOf y.bankB) = false → s.recordVerdict = .seal) ∧
        (s.recordVerdict = .accepted ↔ judgeContent (y.recordOf y.bankB) = .accepted)) ∧
      (y.coldRun = false → s.recordVerdict ≠ .accepted → ∀ v, v = .accepted ∨ v = .reread →
        exec (.handoverResume v) s = .next (refused (verdictReason s.recordVerdict))) ∧
      (y.coldRun = false → idle → s.recordVerdict = .accepted →
        let u := resumed { y with handovers := inc32 y.handovers 1, gap := s.now - y.quiesced }
        exec (.handoverResume .accepted) s = .next u ∧ ∃ t, exec (.handoverResume .reread) s = .next t ∧ Safety.reported u t) ∧
      (y.coldRun = false → ∀ v, v ≠ .accepted → v ≠ .reread → exec (.handoverResume v) s = .next (refused (verdictReason v))) ∧
      (y.coldRun = true → idle → ∀ reread, ∃ t, exec (.coldActivationResume reread) s = .next t ∧ t.rally = (resumed y).rally ∧ t.mgmt.wdHeld = false ∧
        t.mgmt.wdLast = some s.now ∧ t.pwr = s.pwr ∧ t.tim = s.tim ∧ t.zones = s.zones ∧ t.surf = s.surf ∧
        ∀ q, s.flash.persisted.newest PersistRecord.gen = some q →
          t.dict = { s.dict with gen := q.gen, vals := (readBack q).1, doms := (readBack q).2 })) ∧
    (y.phase = .handover → s.pwr.held.contains .rallyRevert = true → idle → (∀ c, y.carried = some c → c.renderHeld = false) →
      s.surf.waiting.all (fun w => !w.isPacket) = true → ∀ reread,
      let anew := y.coldRun = true ∨ s.ownRecordHolds (if y.reason = 6 then !y.bankB else y.bankB) = false ∨ y.carried = none
      ∃ t, exec (.rallyRevert reread) s = .next t ∧ Safety.raised s t 115 ∧
        (s.pwr.dev = .standby → Safety.raised s t 120 ∧ t.mgmt.reportDue = false) ∧ (s.pwr.dev ≠ .standby → t.mgmt.reportDue = true) ∧ t.pwr = { s.pwr with lastReset := .rallyRevert, held := enumDel s.pwr.held .rallyRevert } ∧
        t.mgmt.can.level = .user ∧ t.mgmt.vexlink.level = .user ∧ t.mgmt.svc.level = .user ∧ t.mgmt.wdHeld = false ∧
        t.can.transfer = none ∧ t.requestsWaiting = [] ∧ t.blockWaits = false ∧
        (y.reason = 6 → t.rally.bankB = (!y.bankB) ∧ t.slotOfBank y.bankB = { s.slotOfBank y.bankB with state := .rejected } ∧
          t.slotOfBank (!y.bankB) = s.slotOfBank (!y.bankB) ∧ t.rally.outcome = 3 ∧ t.rally.coldPending = false) ∧
        (y.reason ≠ 6 → t.rally.bankB = y.bankB ∧ t.rally.slotA = y.slotA ∧ t.rally.slotB = y.slotB ∧ t.rally.coldPending = true ∧
          t.rally.outcome = 2 ∧ (y.slotA.state = .staged ∨ y.slotB.state = .staged → t.rally.phase = .staged)) ∧
        (¬anew → y.reason ≠ 6 →
          t.dict = s.dict ∧ t.flash = s.flash ∧ t.can.answered = s.can.answered ∧ t.can.stageCommit = s.can.stageCommit ∧
          t.vex.seq = s.vex.seq ∧ t.vex.dupUni = s.vex.dupUni ∧ t.vex.dupBro = s.vex.dupBro ∧ t.flt.fbCauses = s.flt.fbCauses) ∧
        (¬anew → y.reason = 6 → ∀ c, y.carried = some c →
          t.vex.seq = c.seq ∧ t.vex.dupUni = c.dupUni ∧ t.vex.dupBro = c.dupBro ∧ t.vex.addr = c.addr ∧ t.vex.epoch = c.epoch ∧
          t.can.answered = c.answered ∧ t.can.stage = c.stage ∧ t.can.stageCommit = c.stageCommit ∧
          t.flt.fbCauses = s.startCauses c.fbCauses ∧ t.mgmt.mismatches = c.mismatches ∧ t.mgmt.lockUntil = c.lockUntil ∧
          ∀ q, s.flash.persisted.newest PersistRecord.gen = some q → s.nextIsPark = false → t.dict.gen = q.gen ∧
            (q.gen = c.gen → t.dict.dirty = c.dirty ∧ (t.dict.vals, t.dict.doms) = c.dirty.foldl (overlayKey (c.vals, c.doms)) (readBack q)) ∧
            (q.gen ≠ c.gen → t.dict.dirty = [] ∧ (t.dict.vals, t.dict.doms) = readBack q)) ∧
        (anew → t.vex.seq = 0 ∧ t.vex.dupUni = [] ∧ t.vex.dupBro = [] ∧ t.vex.addr = s.vex.addr ∧ t.vex.epoch = s.vex.epoch ∧
          t.can.answered = [] ∧ t.can.stage = none ∧ t.can.stageCommit = none ∧ t.flt.hostPresent = false ∧
          t.flt.fbCauses = s.startCauses [] ∧ t.mgmt.mismatches = 0 ∧ t.mgmt.lockUntil = 0 ∧
          ∀ q, s.flash.persisted.newest PersistRecord.gen = some q → s.nextIsPark = false →
            t.dict = { s.dict with
              gen := q.gen, vals := (readBack q).1, doms := (readBack q).2, dirty := [], dirtySince := none, committing := false
              commitAgain := false, storeDue := false, restoring := false, commitKeys := none }) ∧
        t.tim = s.tim ∧ t.comp = s.comp ∧ t.glare = s.glare ∧ t.zones = s.zones ∧ t.therm = s.therm ∧ t.sense = s.sense ∧
        t.chk = { s.chk with looks := t.chk.looks } ∧ t.surf.mem = s.surf.mem ∧ t.surf.queue = s.surf.queue ∧ t.surf.waiting = [] ∧
        ∀ n, (t.surface n).phase = (s.surface n).phase) ∧
    (y.phase = .probation → ∃ t, exec .probationEnd s = .next t ∧ Safety.raised s t 114 ∧
      t.flash.rollback = max s.flash.rollback (min 255 (s.slotOfBank y.bankB).rollbackValue) ∧ t.flash.slotSelect = y.bankB ∧
      t.slotOfBank y.bankB = { s.slotOfBank y.bankB with state := .active } ∧ t.slotOfBank (!y.bankB) = s.slotOfBank (!y.bankB) ∧
      t.rally.bankB = y.bankB ∧ t.rally.phase = .idle ∧ t.rally.outcome = 1 ∧ (12 + b2n y.bankB) ∈ t.flash.due ∧
      t.flash.log = s.flash.log ∧ Safety.reported { s with rally := t.rally, flash := t.flash } t) ∧
    (y.phase ≠ .probation → exec .probationEnd s = .next s)


/-! ### Orders written as objects (chapters 10, 15, 16, 17) -/

/-- PERSIST_STORE, RESTORE_DEFAULTS, PERSIST_COMMIT_DUE, EVENT_CLEAR, LOG_CLEAR, LOG_WRITE and the torn record of a POWER_ON_RESET or BROWN_OUT
(R314, R333, R337, R344 to R346): a commit takes the dirty values and rewrites PERSIST, and within 2 s of the last one it waits; RESTORE_DEFAULTS
commits the defaults and drops what was dirty; EVENT_CLEAR clears its latch; LOG_CLEAR empties the log and has one record written next;
that record and then the queued ones are written in raise order with the next LOG_SEQs; a record torn by loss of power counts as CORRUPT
and leaves a gap in LOG_SEQ, and where it is the first of its sector the sector ahead has been erased.
The clauses that rest on a reading of the model name it in log 39, 40. -/
def Obligations.PersistenceAndLog : Prop :=
  ∀ (s : State) (r : Req),
    let m := Safety.order r K.persistCmd 1 1
    let queued := s.mgmt.clearRecord.toList ++ s.mgmt.logQueue
    let d := s.dict
    let begun := { d with
      committing := true, commitAgain := false, storeDue := false, dirty := [], dirtySince := none, commitKeys := some d.dirty,
      snapshot := s.commitContent }
    (Safety.accepts s m →
      (d.committing = false → d.restoring = false → (∀ t, d.lastCommit = some t → t + 2000000 ≤ s.now) →
        Safety.orderDone (.persistStore r) s m { s with dict := begun, flash := (s.writeDue 0).flash }) ∧
      (d.committing = true ∨ (∃ t, d.lastCommit = some t ∧ s.now < t + 2000000) →
        Safety.orderDone (.persistStore r) s m { s with dict := { d with storeDue := true } })) ∧
    (Safety.accepts s (Safety.order r K.persistCmd 1 2) →
      ∃ u, Safety.orderDone (.restoreDefaults r) s (Safety.order r K.persistCmd 1 2) u ∧ u.dict.dirty = [] ∧ u.dict.dirtySince = none ∧
        u.dict.storeDue = false ∧ u.dict.vals = d.vals ∧ u.dict.doms = d.doms ∧ u.dict.committing = true ∧
        (d.committing = false → u.dict.restoring = false ∧ u.dict.commitKeys = none ∧ u.dict.snapshot = ([], []) ∧ 0 ∈ u.flash.due) ∧
        (d.committing = true → u.dict.restoring = true ∧ u.dict.snapshot = d.snapshot ∧ u.flash = s.flash) ∧
        u = { s with dict := u.dict, flash := u.flash }) ∧
    (s.flashWorks = true → d.committing = false → d.dirty ≠ [] ∨ d.storeDue = true → d.restoring = false →
      exec .persistCommitDue s = .next { s with dict := begun, flash := (s.writeDue 0).flash }) ∧
    (s.flashWorks = true → d.committing = false → d.restoring = true → exec .persistCommitDue s = .next { s with
      dict := { d with committing := true, restoring := false, commitKeys := none, snapshot := ([], []) }, flash := (s.writeDue 0).flash }) ∧
    (s.flashWorks = false ∨ d.committing = true ∨ (d.dirty = [] ∧ d.storeDue = false ∧ d.restoring = false) →
      exec .persistCommitDue s = .next s) ∧
    (∀ v, Safety.accepts s (Safety.order r K.eventClear 1 v) → v < 256 →
      Safety.orderDone (.eventClear r v) s (Safety.order r K.eventClear 1 v)
        { s with mgmt := { s.mgmt with latched := if v = 255 then [] else s.mgmt.latched.filter (· ≠ v) } }) ∧
    (Safety.accepts s (Safety.order r K.logClear 1 1) →
      ∃ u b, Safety.orderDone (.logClear r) s (Safety.order r K.logClear 1 1) u ∧ field b 12 1 = 3 ∧
        u = { s with
          flash := { s.flash with log := [] }
          mgmt := { s.mgmt with reconstructed := false, clearRecord := some b }, free := u.free }) ∧
    ((s.up = true → s.rally.phase ≠ .handover → s.mgmt.dropsToNote = 0 → s.flash.logNext + queued.length < 2 ^ 32 →
        (∀ k, k < queued.length → (s.flash.logNext + k) % 1024 ≠ 0) →
        exec .logWrite s = .next { s with
          mgmt := { s.mgmt with logQueue := [], clearRecord := none }
          flash := { s.flash with
            logNext := s.flash.logNext + queued.length
            log := s.flash.log ++ queued.mapIdx fun k e =>
              (s.flash.logNext + k, sealed (u32 (s.flash.logNext + k) ++ e.drop 4)) } }) ∧
      (s.up = true → queued ≠ [] → ∀ c ∈ [Instr.powerOnReset true, .brownOut true], ∃ t, exec c s = .next t ∧
        t.flash.logCorrupt = inc32 s.flash.logCorrupt 1 ∧ t.flash.logNext = inc32 s.flash.logNext 1 ∧
        t.flash.log = (if s.flash.logNext % 1024 = 0 then s.flash.log.filter fun e => erasedBelow s.flash.logNext ≤ e.1 else s.flash.log)) ∧
      (s.up = false ∨ queued = [] → exec (.powerOnReset true) s = exec (.powerOnReset false) s ∧
        exec (.brownOut true) s = exec (.brownOut false) s)) ∧
    (s.up = false ∨ s.rally.phase = .handover → exec .logWrite s = .next s)

/-- FAULT_ACK, ZONE_FAULT_CLEAR and STATE_REQUEST LIT in FALLBACK (R175, R207, R211, R219): FAULT_ACK releases FAULT_N where nothing holds it and
clears the REACTION cause; ZONE_FAULT_CLEAR ends the FAULT cause of its zone and no other, and at SERVICE its DEGRADED as well (the
model's choice of the command, log 47); LIT releases the fallback beam to the host. -/
def Obligations.FaultsAreReleased : Prop :=
  ∀ (s : State) (r : Req),
    (Safety.accepts s (Safety.order r K.faultAck 1 1) → .reaction ∉ s.flt.fbCauses ∨ s.flt.hostPresent = true →
      Safety.orderDone (.faultAck r) s (Safety.order r K.faultAck 1 1) { s with
        pwr := { s.pwr with faultAckSeen := true }
        flt := { s.flt with
          faultAcked := true, fbCauses := enumDel s.flt.fbCauses .reaction
          faultN := s.flt.faultN && !(s.flt.health != 2 && s.flt.reactions.isEmpty) } }) ∧
    (∀ z, z < 512 → Safety.accepts s (Safety.order r K.zoneFaultClear 2 z) → Safety.notFailed s →
      ∃ t, exec (.zoneFaultClear r z) s = .next t ∧
        (t.zone z).causes = enumDel (s.zone z).causes .fault ∧ (t.zone z).closed = (s.zone z).closed ∧
        (t.zone z).stuckHold = (s.zone z).stuckHold ∧
        (z < s.zones.length → (t.zone z).degraded = ((s.zone z).degraded && (s.access r.via).level != .service)) ∧
        (∀ j, j ≠ z → t.zone j = s.zone j) ∧ t.flt.reactions = setDel s.flt.reactions z ∧ t.tim = s.tim ∧ t.surf = s.surf ∧
        t.comp = s.comp ∧ t.dict = s.dict ∧ t.flash = s.flash ∧ t.therm = s.therm ∧ t.glare = s.glare ∧ t.pwr.dev = s.pwr.dev ∧
        t.can.answered.getLast? = some (Safety.order r K.zoneFaultClear 2 z, ⟨0x82, 0, []⟩, s.now)) ∧
    (Safety.accepts s (Safety.order r K.stateRequest 1 3) → s.pwr.dev = .fallback → (∀ c ∈ s.flt.fbCauses, c = .thermal) → Safety.notFailed s →
      ∃ t f, exec (.stateRequestLit r) s = .next t ∧ t.pwr.dev = .lit ∧ t.flt.fbCauses = [] ∧ t.flt.renderOn = false ∧
        t.comp.inReset = false ∧ t.tim.work = some f ∧ f.kind ≠ .fallback ∧
        t.zones.map Zone.closed = s.zones.map Zone.closed ∧ t.zones.map Zone.gz = s.zones.map Zone.gz)

/-- What each order does on acceptance, with its answer (R33, R35, R117, R147, R171, R178 to R180, R405): REFLEX_ENABLE keeps its value, and 0 frees
every reflex slot; GAIN_SOURCE keeps its value and has every refused hand-over evaluated again; SENSE_INTERVAL_CYC is staged, and 0 discards the
sense cycle in progress of a lit module; ZONE_BLANK_MASK makes HOST a cause of exactly the zones of its bits; CAP_CMD START begins a capture, or
arms the injection where INJ_TARGET names one; INJ_TARGET keeps its value, and OFF ends the injection; AUX_ENABLE turns the matrix and the
chain of a powered AUX on or off.
The clauses that rest on a reading of the model name it in log 36, 43. -/
def Obligations.LightOrders : Prop :=
  ∀ (s : State) (r : Req),
    (∀ v, Safety.accepts s (Safety.order r K.reflexEnable 1 v) → v < 2 →
      (v = 1 → Safety.orderDone (.reflexEnable r v) s (Safety.order r K.reflexEnable 1 v) (s.writePar K.reflexEnable v)) ∧
      (v = 0 → ∃ t, exec (.reflexEnable r v) s = .next t ∧ t.glare.slots = List.replicate 16 .reset ∧ t.glare.mapWaiting = false ∧
        t.glare.overflowRun = false)) ∧
    (∀ v, Safety.accepts s (Safety.order r K.gainSource 1 v) → v < 256 →
      Safety.orderDone (.gainSource r v) s (Safety.order r K.gainSource 1 v)
        { s.writePar K.gainSource v with zones := s.zones.map fun z => { z with refused := false } }) ∧
    (∀ v, Safety.accepts s (Safety.order r K.senseInterval 2 v) → v < 65536 → Safety.notFailed s →
      ∃ t, exec (.senseIntervalCyc r v) s = .next t ∧ t.sense.stagedN = some v ∧ t.sense.n = s.sense.n ∧
        (v ≠ 0 → t.sense.discard = s.sense.discard ∧ t.sense.records = s.sense.records) ∧
        (v = 0 → s.sense.inCycle = true → s.lighting = true → t.sense.discard = true) ∧
        t.tim = s.tim ∧ t.surf = s.surf ∧ t.comp = s.comp ∧ t.glare = s.glare ∧ t.dict = s.dict ∧ t.flash = s.flash ∧ t.chk = s.chk ∧
        t.pwr.dev = s.pwr.dev ∧ t.zones.map Zone.closed = s.zones.map Zone.closed ∧ t.zones.map Zone.gz = s.zones.map Zone.gz ∧
        t.therm.diodes = s.therm.diodes ∧
        t.can.answered.getLast? = some (Safety.order r K.senseInterval 2 v, ⟨0x82, 0, []⟩, s.now)) ∧
    (∀ offset data, Safety.taken s ⟨r, 0x11, K.zoneBlankMask / 256, K.zoneBlankMask % 256, 0, u32 offset ++ u32 data.length⟩ →
      s.can.transfer = none →
      s.initError (s.access r.via).level (K.zoneBlankMask / 256) (K.zoneBlankMask % 256) offset data.length = none →
      s.writeError (s.access r.via).level (K.zoneBlankMask / 256) (K.zoneBlankMask % 256) offset data true = none →
      let mask := splice (s.dom K.zoneBlankMask) offset data
      ∃ t, exec (.zoneBlankMask r offset data) s = .next t ∧ t.dom K.zoneBlankMask = mask ∧
        (∀ z, z < s.zones.length → ∀ c, c ∈ (t.zone z).causes ↔
          if c = .host then bitOf (mask.getD (z / 8) 0).toNat (z % 8) = true else c ∈ (s.zone z).causes) ∧
        Safety.answered { s with dict := t.dict, zones := t.zones } t) ∧
    (Safety.accepts s (Safety.order r K.capCmd 1 1) →
      (s.par K.injTarget = 0 → Safety.orderDone (.capCmdStart r) s (Safety.order r K.capCmd 1 1) { s with sup := { s.sup with
        capRunning := true, capState := 1, capTaken := 0, capDecim := 0, capSamples := [] } }) ∧
      (s.par K.injTarget ≠ 0 → Safety.orderDone (.capCmdStart r) s (Safety.order r K.capCmd 1 1)
        { s with sup := { s.sup with injArmed := true } })) ∧
    (∀ v, Safety.accepts s (Safety.order r K.injTarget 1 v) → v < 256 →
      (v ≠ 0 → Safety.orderDone (.injTarget r v) s (Safety.order r K.injTarget 1 v) (s.writePar K.injTarget v)) ∧
      (v = 0 → ∃ t, exec (.injTarget r v) s = .next t ∧ t.sup.injecting = false ∧ t.sup.injArmed = false ∧ t.par K.injTarget = 0 ∧
        Safety.told (s.writePar K.injTarget 0) t)) ∧
    ∀ v, Safety.accepts s (Safety.order r K.auxEnable 1 v) → v < 256 → s.pwr.aux = true →
      ∃ u, Safety.orderDone (.auxEnable r v) s (Safety.order r K.auxEnable 1 v) u ∧ u.aux.matrixOn = bitOf v 0 ∧
        (bitOf v 1 = true → u.aux.chain = 1) ∧
        (bitOf v 1 = false → u.aux.chain = (if s.aux.chain = 1 ∨ s.aux.chain = 3 then (if s.aux.shifting then 2 else 0) else s.aux.chain)) ∧
        u.aux.openMap = [] ∧ u.aux.matching = 0 ∧ u.pwr.aux = true ∧
        u = { s.writePar K.auxEnable v with aux := u.aux, pwr := { s.pwr with onDemand := u.pwr.onDemand } }

/-- COMPAT_ENABLE, PH16K_MODE, PH16K_MAP, COMMIT_STAGE and CAMPION_IMAGE_LOAD_DONE (R298, R327, R329 to R331): entering Campion binds a Campion
commit with its own tag, leaving it has the native binding refreshed; a write of the staging copy with SYNC INTERNAL binds a Campion
commit while Campion is on and is only kept otherwise; a valid COMMIT_STAGE is staged, an invalid one is answered INVALID with EV020.
That the count in the Campion tag includes the commit itself (n + 1) is the model's reading (log 27). The other clauses that rest on a
reading of the model name it in log 14, 36. -/
def Obligations.CampionAndStagedCommits : Prop :=
  ∀ (s : State) (r : Req),
    let n := s.comp.campionCommits
    let beam := bits (s.par K.ph16kMode) 0 2
    let bound := fun (t : State) => t.comp.campionOn = true ∧ t.comp.campionCommits = inc32 n 1 ∧
      ∃ f, t.tim.work = some f ∧ f.kind = .committed ∧ f.tag = 0x80000000 + (n + 1) % 0x80000000 ∧ f.campion ≠ none ∧
        t.zones = s.zones ∧ t.surf = s.surf ∧ t.pwr = s.pwr
    let clear := s.mayCompose = true ∧ s.tim.work = none ∧ s.tim.pend = none
    let domTaken := fun (key offset : Nat) (data : List Byte) =>
      Safety.taken s ⟨r, 0x11, key / 256, key % 256, 0, u32 offset ++ u32 data.length⟩ ∧ s.can.transfer = none ∧
        s.initError (s.access r.via).level (key / 256) (key % 256) offset data.length = none ∧
        s.writeError (s.access r.via).level (key / 256) (key % 256) offset data true = none
    let staging := fun data => Safety.writeMsg r (K.commitStage / 256) (K.commitStage % 256) data
    (∀ v, Safety.accepts s (Safety.order r K.compatEnable 1 v) → v < 2 →
      (v = 1 → s.comp.campionOn = false → s.tim.toBind = [] → clear → ∃ t, exec (.compatEnable r v) s = .next t ∧ bound t) ∧
      (v = 0 → s.comp.campionOn = true → clear → ∃ t f, exec (.compatEnable r v) s = .next t ∧ t.comp.campionOn = false ∧
        t.tim.work = some f ∧ f.kind = .refresh ∧ f.campion = none) ∧
      (s.comp.campionOn = (v != 0) →
        Safety.orderDone (.compatEnable r v) s (Safety.order r K.compatEnable 1 v) (s.writePar K.compatEnable v))) ∧
    (∀ v, Safety.accepts s (Safety.order r K.ph16kMode 1 v) → v < 256 →
      (s.comp.campionOn = false ∨ bitOf v 6 = true → Safety.orderDone (.ph16kMode r v) s (Safety.order r K.ph16kMode 1 v)
        { s.writePar K.ph16kMode v with comp := { s.comp with unbound := true } }) ∧
      (s.comp.campionOn = true → bitOf v 6 = false → clear → ∃ t, exec (.ph16kMode r v) s = .next t ∧ bound t)) ∧
    (∀ offset data, domTaken K.ph16kMap offset data → s.comp.campionOn = false ∨ s.syncExternal = true →
      ∃ t, exec (.ph16kMap r offset data) s = .next t ∧ t.dom K.ph16kMap = splice (s.dom K.ph16kMap) offset data ∧
        Safety.answered { s with dict := t.dict, comp := { s.comp with unbound := true } } t) ∧
    (∀ data ls bs ss, parseCommit data = .ok (ls, bs, ss) →
      let c := { s.can with stage := some data, stageCommit := some ⟨0, ls, bs, ss, false, .sync, 0⟩ }
      (data.length ≤ 56 → Safety.accepts s (staging data) → Safety.orderDone (.commitStage r data) s (staging data) { s with can := c }) ∧
      (56 < data.length → domTaken K.commitStage 0 data → ∃ t, exec (.commitStage r data) s = .next t ∧
        Safety.answered { s with can := c } t)) ∧
    (∀ data off, data.length ≤ 56 → Safety.taken s (staging data) →
      s.writeError (s.access r.via).level (K.commitStage / 256) (K.commitStage % 256) 0 data false = some (0x0B, off) →
      ∃ t, exec (.commitStage r data) s = .next t ∧ Safety.raised s t 20 ∧
        Safety.told { s with can := { s.can with stage := none, stageCommit := none } } t ∧
        t.can.answered.getLast? = some (staging data, ⟨0xFF, 0, u8 0x0B ++ [0, 0, 0] ++ u32 off⟩, s.now)) ∧
    ((beam ≠ 1 → beam ≠ 2 → exec .campionImageLoadDone s = .next s) ∧
      (beam = 1 ∨ beam = 2 →
        (s.selectImage = none → exec .campionImageLoadDone s = .next { s with comp := { s.comp with imgIndex := 255, imgData := [] } }) ∧
        ∀ low, s.selectImage = some low → exec .campionImageLoadDone s = .next { s with comp := { s.comp with
          imgIndex := if beam = 1 then low.1 else (s.highImage low).1, imgData := if beam = 1 then low.2 else (s.highImage low).2 } }))


/-! ### The auxiliary driver (chapter 21) -/

/-- AUX_FRAME_START, AUX_LINE_SLOT, AUX_SHIFT_DONE, AUX_BLANK_RISE and AUX_LATCH (R395 to R404): a frame samples the settings, starts a shift where none
runs and lowers AUX_BLANK for a T_b above 0; a segment that fails a look twice is in OPEN_MAP, one that passes is not; a shift's
returned bits are judged against the check value kept, a mismatch withholds the latch and blanks, a second is BLANKED_FAULT; a completed
shift is latched at a frame end, and one still running there, or completed less than 1 us before it, is SKIPPED.
The clauses that rest on a reading of the model name it in log 41. -/
def Obligations.AuxFramesRun : Prop :=
  ∀ s : State,
    let a := s.aux
    (s.pwr.aux = false → ∀ k fs bs, exec .auxFrameStart s = .next s ∧ exec (.auxLineSlot k fs) s = .next s ∧
      exec (.auxShiftDone bs) s = .next s ∧ exec .auxBlankRise s = .next s ∧ exec .auxLatch s = .next s) ∧
    (s.pwr.aux = true →
      (∃ t, exec .auxFrameStart s = .next t ∧ t = { s with aux := t.aux } ∧ t.aux.frames = inc32 a.frames 1 ∧
        t.aux.lineTime = s.par K.auxLineTime ∧ t.aux.lineBlank = s.par K.auxLineBlank ∧ t.aux.matrix = s.dom K.auxMatrix ∧
        t.aux.sinkMa = (s.dom K.auxSinkMa).map BitVec.toNat ∧ t.aux.chainLen = s.par K.auxChainLen ∧ t.aux.chainMode = s.par K.auxChainMode ∧
        t.aux.chainData = s.dom K.auxChain ∧ t.aux.chain = a.chain ∧ t.aux.openMap = a.openMap ∧ t.aux.latched = a.latched ∧
        (a.shifting = false → a.complete = false ∨ a.withhold = true → a.chain = 1 ∨ a.chain = 3 →
          t.aux.shifting = true ∧ t.aux.shiftSeq = inc32 a.shiftSeq 1 ∧
          t.aux.shiftBits = chainStream (s.par K.auxChainLen) (s.par K.auxChainMode) (s.dom K.auxChain) ∧
          (t.aux.judge = true ↔ a.kept ≠ none ∧ s.par K.auxChainLen = a.shiftLen ∧ s.par K.auxChainMode = a.shiftMode)) ∧
        (a.shifting = true ∨ (a.complete = true ∧ a.withhold = false) ∨ (a.chain ≠ 1 ∧ a.chain ≠ 3) → t.aux.shifting = a.shifting ∧ t.aux.shiftSeq = a.shiftSeq ∧ t.aux.shiftBits = a.shiftBits) ∧
        (t.aux.blankHigh = false ↔ a.chain = 1 ∧ a.heldBlank = false ∧
          0 < (if s.par K.auxChainMode = 0 then ((160 * s.par K.auxLineTime - 20) *
            maxNat ((upTo (16 * s.par K.auxChainLen)).map (element (s.dom K.auxChain))) + 32767) / 65535 else 160 * s.par K.auxLineTime - 20))) ∧
      (∀ (k : Fin 8) (fs : List (Fin 16)),
        (a.matrixOn = false ∨ a.matrixStarts = true → exec (.auxLineSlot k fs) s = .next s) ∧
        (a.matrixOn = true → a.matrixStarts = false → ∃ t, exec (.auxLineSlot k fs) s = .next t ∧ Safety.told { s with aux := t.aux } t ∧
          t.aux.line = some k.val ∧ ∀ c : Fin 16,
            let g := 16 * k.val + c.val
            let time := if a.sinkMa.getD c.val 0 = 0 then 0
              else (20 * (a.lineTime - a.lineBlank) * element a.matrix g + 32767) / 65535
            t.aux.onTimes.getD c.val 0 = time ∧
            (time < 40 → (g ∈ t.aux.openMap ↔ g ∈ a.openMap) ∧ (g ∈ t.aux.openLooks ↔ g ∈ a.openLooks)) ∧
            (40 ≤ time → c ∉ fs → g ∉ t.aux.openMap ∧ g ∉ t.aux.openLooks) ∧
            (40 ≤ time → c ∈ fs → g ∉ a.openMap → g ∉ a.openLooks → g ∉ t.aux.openMap ∧ g ∈ t.aux.openLooks) ∧
            (40 ≤ time → c ∈ fs → g ∉ a.openMap → g ∈ a.openLooks → g ∈ t.aux.openMap))) ∧
      (∀ bs, (a.shifting = false → exec (.auxShiftDone bs) s = .next s) ∧
        (a.shifting = true → a.chain = 1 → a.withhold = false →
          let own := some (streamCheck a.shiftSeq (packBits a.shiftBits), a.shiftSeq)
          (a.judge = false → exec (.auxShiftDone bs) s = .next { s with aux := { a with
            shifting := false, complete := true, doneAt := s.now, kept := own } }) ∧
          (∀ v q, a.judge = true → a.kept = some (v, q) →
            (streamCheck q bs = v → a.look = none → exec (.auxShiftDone bs) s = .next { s with aux := { a with
              shifting := false, complete := true, doneAt := s.now, kept := own, judge := false } }) ∧
            (streamCheck q bs = v → a.look ≠ none → ∃ t, exec (.auxShiftDone bs) s = .next t ∧ Safety.reported { s with aux := { a with
              shifting := false, complete := true, doneAt := s.now, kept := own, judge := false, look := none,
              loopTransient := inc32 a.loopTransient 1 } } t) ∧
            (streamCheck q bs ≠ v → a.look = none → exec (.auxShiftDone bs) s = .next { s with aux := { a with
              shifting := false, complete := true, doneAt := s.now, kept := own, judge := false, look := some (streamCheck q bs), withhold := true, blankHigh := true,
              heldBlank := true } }) ∧
            (streamCheck q bs ≠ v → a.look ≠ none → exec (.auxShiftDone bs) s = .next { s with aux := { a with
              shifting := false, complete := true, doneAt := s.now, kept := none, judge := false, look := none, withhold := true, blankHigh := true,
              heldBlank := true, matching := 0, chain := 3, loopLasting := inc32 a.loopLasting 1 } })))) ∧
      exec .auxBlankRise s = .next { s with aux := { a with blankHigh := true } } ∧
      (a.chain = 1 ∨ a.chain = 3 →
        (a.complete = true → a.withhold = false → a.doneAt + 1 ≤ a.frameAt + 8 * a.lineTime → exec .auxLatch s = .next { s with aux := { a with
          latched := a.shiftBits, complete := false, heldBlank := false } }) ∧
        (a.complete = true → a.withhold = false → a.frameAt + 8 * a.lineTime < a.doneAt + 1 →
          exec .auxLatch s = .next { s with aux := { a with skipped := inc32 a.skipped 1 } }) ∧
        (a.complete = true → a.withhold = true → exec .auxLatch s = .next { s with aux := { a with complete := false, withhold := false } }) ∧
        (a.complete = false → a.shifting = true → exec .auxLatch s = .next { s with aux := { a with skipped := inc32 a.skipped 1 } }) ∧
        (a.complete = false → a.shifting = false → exec .auxLatch s = .next s)) ∧
      (a.chain = 0 ∨ a.chain = 2 → exec .auxLatch s = .next s))


/-! ### The event controller, the layers and the compressed tiles (chapters 17, 4 and 5) -/

/-- The event controller at a raise of event `n` (R335, R336, R338, R340): EV_COUNT and EVENT_SEQ count it, and no other event's count
moves. With EV_MASK 1 nothing further happens. Otherwise EV_LATCH or a fixed case latches it; the record, laid out as in Table 17-3 and
sealed, is in EV_LAST; and it goes where the route in force sends it: bit 0 to the queue of CAN class 0 (R297), bit 1 to the queue of own
packets (R263; in CAN-only operation it is counted, R300), bit 2 to FAULT_N, as severity 2 or more does whatever bit 2 holds (R211), bit 3 to
the log where its severity passes LOG_MIN_SEVERITY (R345). Each drop is counted, and a route not set leaves its queue. The severity is
EV_SEVERITY or that of the fixed case, and at 2 or more it ends an injection, whose EV056 follows (R179).
The severity kept for a release record and the end of the RECONSTRUCTED flag at the first record written are the model's readings of
R340 and R343 (log 8, 40). -/
def Obligations.EventsAreRaised : Prop :=
  ∀ (s : State) (r : Raise), r.ev < 128 →
    let t := s.raiseRaw r
    let sev := match r.fixedSev with
      | some v => v
      | none => (kvGet s.flash.severities r.ev).getD (evDefault r.ev).1
    let latch := match r.fixedLatchRoute with
      | some (l, _) => l
      | none => decide (s.par (256 * (0x4010 + r.ev) + K.evLatch % 256) ≠ 0)
    let route := match r.fixedLatchRoute with
      | some (_, x) => x
      | none => s.par (256 * (0x4010 + r.ev) + K.evRoute % 256)
    let logged := route / 8 % 2 = 1 ∧ s.par K.logMinSeverity ≤ sev
    let masked := s.par (256 * (0x4010 + r.ev) + K.evMask % 256) ≠ 0
    Safety.reported s t ∧ Safety.raised s t r.ev ∧ t.mgmt.evSeq = inc32 s.mgmt.evSeq 1 ∧ kvGet t.mgmt.lastSev r.ev = some sev ∧
    (∀ j, j ≠ r.ev → kvGet t.mgmt.evCounts j = kvGet s.mgmt.evCounts j ∧ kvGet t.mgmt.evLast j = kvGet s.mgmt.evLast j) ∧
    (masked → t = { s with mgmt := { s.mgmt with evSeq := t.mgmt.evSeq, evCounts := t.mgmt.evCounts, lastSev := t.mgmt.lastSev } }) ∧
    (¬masked →
      (∀ j, j ∈ t.mgmt.latched ↔ j ∈ s.mgmt.latched ∨ (j = r.ev ∧ latch = true)) ∧
      (∃ b, kvGet t.mgmt.evLast r.ev = some b ∧ b.length = 64 ∧
        field b 0 4 = t.mgmt.evSeq % 2 ^ 32 ∧ field b 4 8 = (r.stamp.getD s.now) % 2 ^ 64 ∧ field b 12 1 = 0 ∧ field b 13 1 = r.ev ∧
        field b 14 1 = sev % 256 ∧
        field b 15 1 = 8 * (if s.rally.phase = .handover then 1 else 0) +
          4 * (if r.slowStamp = true ∨ s.mgmt.reconstructed = true then 1 else 0) + 2 * (if latch = true then 1 else 0) +
          (if r.lasting = true then 1 else 0) ∧
        field b 16 1 = s.pwr.dev.num ∧ field b 17 1 = s.flt.health % 256 ∧ field b 18 2 = r.check % 65536 ∧
        field b 20 4 = s.tim.frameCount % 2 ^ 32 ∧
        (∀ i, i < 32 → b.getD (24 + i) 0 = r.data.getD i 0) ∧
        field b 56 4 = s.flash.bootCount % 2 ^ 32 ∧ field b 60 4 = crc32c (b.take 60) % 2 ^ 32 ∧
        (route % 2 = 1 → t.can.evQueue = (if s.can.evQueue.length < 8 then s.can.evQueue else s.can.evQueue.drop 1) ++ [b] ∧
          t.can.evLost = if s.can.evQueue.length < 8 then s.can.evLost else inc32 s.can.evLost 1) ∧
        (route % 2 = 0 → t.can = s.can) ∧
        (route / 2 % 2 = 1 →
          (s.can.canOnly = true → t.vex = { s.vex with canOnlyLost := inc32 s.vex.canOnlyLost 1 }) ∧
          (s.can.canOnly = false →
            ((s.vex.own.filter OwnItem.isEvent).length < 16 → t.vex = { s.vex with own := s.vex.own ++ [.event b] }) ∧
            (16 ≤ (s.vex.own.filter OwnItem.isEvent).length → t.vex.own.getLast? = some (.event b) ∧
              t.vex.own.length = s.vex.own.length ∧
              t.vex.own.filter (fun o => !o.isEvent) = s.vex.own.filter (fun o => !o.isEvent) ∧
              t.vex.own.filter OwnItem.isEvent = (s.vex.own.filter OwnItem.isEvent).drop 1 ++ [.event b] ∧
              t.vex.evDropped = inc32 s.vex.evDropped 1))) ∧
        (route / 2 % 2 = 0 → t.vex = s.vex) ∧
        (logged → (s.mgmt.logQueue.length < 64 → t.mgmt.logQueue = s.mgmt.logQueue ++ [b.take 60] ∧ t.mgmt.logDropped = s.mgmt.logDropped) ∧
          (64 ≤ s.mgmt.logQueue.length → t.mgmt.logQueue = s.mgmt.logQueue ∧ t.mgmt.logDropped = inc32 s.mgmt.logDropped 1))) ∧
      (¬logged → t.mgmt.logQueue = s.mgmt.logQueue ∧ t.mgmt.logDropped = s.mgmt.logDropped) ∧
      (route / 4 % 2 = 1 ∨ 2 ≤ sev → t.flt = { s.flt with faultN := true, faultAcked := false }) ∧
      (route / 4 % 2 = 0 → sev < 2 → t.flt = s.flt) ∧
      t.mgmt.reconstructed = (s.mgmt.reconstructed && !(decide (route % 2 = 1) || decide (route / 2 % 2 = 1) || decide logged))) ∧
    (sev < 2 ∨ (s.sup.injecting = false ∧ s.sup.injArmed = false) → s.raise r = t) ∧
    (2 ≤ sev → s.sup.injecting = true ∨ s.sup.injArmed = true → ∃ u, s.raise r = u ∧ Safety.raised t u 56 ∧ u.sup.injecting = false ∧
      u.sup.injArmed = false ∧ u.sup.injU = 0 ∧ u.sup.capRunning = false ∧ Safety.reported t u)

/-- What every start of a statistics pass does with the layers of a host frame (R81 to R85, Table 4-7): a disabled layer is not judged; a
ready one is drawn as bound, and its binding is the last good one; one not ready reports the first cause of the order of R82 and counts
NR_COUNT. Under HOLD it is drawn with its last good binding while NR_COUNT is at most HOLD_MAX, its surface has not been written since and
it is ready itself; under DROP not at all; under FALLBACK, and where HOLD fails, from the whole fallback surface (a video layer scaled by the
steps of R84), or not at all where that is not ready. EV016 is raised at the first pass of a run and where the run changes its cause or
its action, with the layer, the cause and the action; EV017 at the first pass in which SRC_W of an enabled video layer is above 1,024.
LAYER_STATUS keeps the judgement. The frame's pass begins with those layers, and nothing else changes.
Log 28 has the model's readings: newly bound is any object changed since the last judgement (`lastBind`), a fallback surface wider than
1,024 is judged LB_SHORT and dropped, and a pass that restarts counts. -/
def Obligations.LayersAreJudged : Prop :=
  ∀ (s : State) (f : Frame), f.campion = none →
    let t := s.runStatistics f
    let old := fun k => s.comp.layers.getD k LayerState.reset
    let now := fun k => t.comp.layers.getD k LayerState.reset
    let news16 := fun (k : Nat) => ∃ b, f.binds[k]? = some b ∧ b.enable = true ∧ s.notReady k b ≠ .none ∧
      ((old k).judged = false ∨ (old k).nrCount = 0 ∨ (old k).lastBind ≠ some b ∨ s.notReady k b ≠ (old k).cause ∨
        (now k).action ≠ (old k).action)
    let news17 := fun (k : Nat) => ∃ b, f.binds[k]? = some b ∧ b.enable = true ∧ k < 2 ∧ 1024 < b.srcW ∧ (old k).lbWide = false
    (∃ g, t.tim.work = some g ∧ g.stage = .statistics ∧ g.layers.length = f.binds.length ∧ g.rowsDone = 0 ∧ g.tag = f.tag ∧ g.kind = f.kind ∧
      g.binds = f.binds ∧ t.tim = { s.tim with work := some g, loadRow := none, loadDone := false, reload := false, lastLoaded := none } ∧
      t.comp = { s.comp with layers := t.comp.layers } ∧ Safety.reported { s with comp := t.comp, tim := t.tim } t ∧
      ∀ (k : Nat) (b : LayerBind), f.binds[k]? = some b → ∃ d, g.layers[k]? = some d ∧
        let u := s.surface b.surface
        let fmt := s.surfPar b.surface K.surfFormat
        let w := s.surfPar b.surface K.surfWidth
        let h := s.surfPar b.surface K.surfHeight
        let decode := u.decodeFault = true
        let noSurface := s.surfPar b.surface K.surfSize = 0
        let incomplete := u.phase ≠ .valid ∨ u.needsCheck = true
        let badFormat := (k < 2 ∧ (fmt = 4 ∨ fmt = 5 ∨ s.surfIsPtc b.surface = true)) ∨ (2 ≤ k ∧ fmt = 1 ∧ s.surfIsPtc b.surface = true)
        let badPlace := b.srcW = 0 ∨ b.srcH = 0 ∨ w < b.srcX + b.srcW ∨ h < b.srcY + b.srcH ∨
          (k < 2 ∧ (b.dstW = 0 ∨ b.dstH = 0 ∨ b.stepX < 0x1000 ∨ 0x20000 < b.stepX ∨ b.stepY < 0x1000 ∨ 0x20000 < b.stepY))
        let wide := k < 2 ∧ 1024 < b.srcW
        let fw := s.surfPar b.fbSurface K.surfWidth
        let fh := s.surfPar b.fbSurface K.surfHeight
        let fb := if k < 2 then
            { b with
              surface := b.fbSurface, srcX := 0, srcY := 0, srcW := fw, srcH := fh, orgX := 0, orgY := 0
              stepX := (fw * 65536 + b.dstW / 2) / b.dstW, stepY := (fh * 65536 + b.dstH / 2) / b.dstH }
          else { b with surface := b.fbSurface, srcX := 0, srcY := 0, srcW := fw, srcH := fh }
        let holds := b.policy = 0 ∧ (now k).nrCount ≤ b.holdMax ∧ (old k).lastGoodFresh = true ∧
          ∃ x, (old k).lastGood = some x ∧ s.notReady k x.bind = .none
        let falls := b.fbSurface ≠ 255 ∧ s.notReady k fb = .none
        (decode → s.notReady k b = .decode) ∧ (¬decode → noSurface → s.notReady k b = .noSurface) ∧
        (¬decode → ¬noSurface → incomplete → s.notReady k b = .incomplete) ∧
        (¬decode → ¬noSurface → ¬incomplete → badFormat → s.notReady k b = .format) ∧
        (¬decode → ¬noSurface → ¬incomplete → ¬badFormat → badPlace → s.notReady k b = .geometry) ∧
        (¬decode → ¬noSurface → ¬incomplete → ¬badFormat → ¬badPlace → wide → s.notReady k b = .lbShort) ∧
        (¬decode → ¬noSurface → ¬incomplete → ¬badFormat → ¬badPlace → ¬wide → s.notReady k b = .none) ∧
        (b.enable = false → (now k).phase = .disabled ∧ (now k).nrCount = 0 ∧ d.drawn = false ∧ (now k).lastGood = (old k).lastGood) ∧
        (b.enable = true → s.notReady k b = .none → (now k).phase = .ready ∧ (now k).nrCount = 0 ∧ (now k).cause = (old k).cause ∧
          d.drawn = true ∧ d.bind = b ∧ d.width = w ∧ d.height = h ∧ d.format = fmt ∧ (now k).lastGood = some d ∧
          (now k).lastGoodFresh = true) ∧
        (b.enable = true → s.notReady k b ≠ .none → (now k).cause = s.notReady k b ∧ (now k).nrCount = inc32 (old k).nrCount 1 ∧
          (now k).lastGood = (old k).lastGood ∧
          (holds → (now k).phase = .holding ∧ (now k).action = 0 ∧ (old k).lastGood = some d) ∧
          (b.policy = 1 → (now k).phase = .dropped ∧ (now k).action = 1 ∧ d.drawn = false) ∧
          (b.policy ≠ 1 → ¬holds → ¬falls → (now k).phase = .dropped ∧ (now k).action = 1 ∧ d.drawn = false) ∧
          (b.policy ≠ 1 → ¬holds → falls → (now k).phase = .fallback ∧ (now k).action = 2 ∧ d.drawn = true ∧ d.bind = fb))) ∧
    (∀ e ∈ [(16, news16), (17, news17)],
      ((∀ k, ¬e.2 k) → kvGet t.mgmt.evCounts e.1 = kvGet s.mgmt.evCounts e.1) ∧
      (∀ k, e.2 k → (∀ j, j ≠ k → ¬e.2 j) → Safety.raised s t e.1)) ∧
    (∀ k, k < 8 → news16 k → (∀ j, j ≠ k → ¬news16 j) → s.evMask 16 = false → ∃ b, kvGet t.mgmt.evLast 16 = some b ∧
      field b 24 2 = k ∧ field b 26 1 = (now k).cause.num ∧ field b 27 1 = (now k).action)

/-- The 128 values of a compressed tile whose header byte lies at byte `o` of an image (R104 to R107, Tables 5-4 to 5-6), for each format: SOLID,
RAW and the palettes by their formula for pixel i; RLE exactly where its bytes are runs that cover 128 pixels; DELTA exactly where each
pixel is its prediction plus its shifted nibble, in range, or the next escape value, with the pad nibble 0. A tile is in error, with no
values, at MODE 7, at a mode that M1 or I12 does not have, at a PARAM that its mode does not have, at an M1 SOLID value above 1, and where
its body goes beyond the image. An index entry names a tile only within the bounds of R100. -/
def Obligations.TilesDecode : Prop :=
  ∀ (img : Array Byte) (fmt o : Nat), fmt < 6 →
    let tile := ptcTile img fmt o
    let vb := if fmt = 2 ∨ fmt = 3 then 2 else 1
    let byte := fun a => (img.getD a 0).toNat
    let value := fun a => if vb = 2 then byte a + 256 * byte (a + 1) else byte a
    let mode := byte o / 32
    let param := byte o % 32
    let fits := fun n => o + n ≤ img.size
    let plain := param = 0 ∧ fmt ≠ 1 ∧ fmt ≠ 5
    let nibble := fun i => if i % 2 = 1 then byte (o + 1 + vb + (i - 1) / 2) % 16 else byte (o + 1 + vb + (i - 1) / 2) / 16
    let escapes := fun i => ((List.range i).filter fun j => decide (1 ≤ j ∧ nibble j = 8)).length
    (fmt = 1 ∨ mode = 7 ∨ img.size ≤ o ∨ (mode ≠ 6 ∧ param ≠ 0) ∨ (fmt = 5 ∧ 2 ≤ mode) → tile = none) ∧
    (mode = 0 → plain → tile = if fits (1 + vb) then some (List.replicate 128 (value (o + 1))) else none) ∧
    (mode = 0 → param = 0 → fmt = 5 → tile = if fits 2 ∧ byte (o + 1) ≤ 1 then some (List.replicate 128 (byte (o + 1))) else none) ∧
    (mode = 1 → plain → tile = if fits (1 + 128 * vb) then some ((List.range 128).map fun i => value (o + 1 + vb * i)) else none) ∧
    (mode = 1 → param = 0 → fmt = 5 → tile =
      if fits 17 then some ((List.range 128).map fun i => byte (o + 1 + i / 8) / 2 ^ (i % 8) % 2) else none) ∧
    (∀ e ∈ [(2, 1), (3, 2), (4, 4)], mode = e.1 → plain → tile = if fits (1 + 2 ^ e.2 * vb + 16 * e.2) then
        some ((List.range 128).map fun i => value (o + 1 + vb *
          (byte (o + 1 + 2 ^ e.2 * vb + i / (8 / e.2)) / 2 ^ (e.2 * (i % (8 / e.2))) % 2 ^ e.2)))
      else none) ∧
    (mode = 5 → plain → ∀ v, tile = some v ↔ ∃ runs : List (Nat × Nat),
      let bytes := runs.flatMap fun e => leBytes 1 e.1 ++ leBytes vb e.2
      (∀ e ∈ runs, e.1 < 128 ∧ e.2 < 256 ^ vb) ∧ v.length = 128 ∧ v = runs.flatMap (fun e => List.replicate (e.1 + 1) e.2) ∧
      fits (1 + bytes.length) ∧ ∀ i, i < bytes.length → img.getD (o + 1 + i) 0 = bytes.getD i 0) ∧
    (mode = 6 → fmt ≠ 1 → fmt ≠ 5 → ∀ v, tile = some v ↔
      (if fmt = 2 then param ≤ 8 else param = 0) ∧ v.length = 128 ∧ fits (1 + vb + 64 + vb * escapes 128) ∧
      byte (o + vb + 64) < 16 ∧ v.getD 0 0 = value (o + 1) ∧ ∀ i, 1 ≤ i → i < 128 →
        let p := v.getD (if i % 16 = 0 then i - 16 else i - 1) 0
        let d : Int := (if nibble i < 8 then (nibble i : Int) else (nibble i : Int) - 16) * 2 ^ param
        let x := v.getD i 0
        if nibble i = 8 then x = value (o + 1 + vb + 64 + vb * escapes i)
        else if fmt = 3 then x / 256 = p / 256 ∧ ((x % 256 : Nat) : Int) = ((p % 256 : Nat) : Int) + d
        else (x : Int) = p + d ∧ x ≤ if fmt = 2 then 65535 else 255) ∧
    ∀ w h k, ptcTileAt img fmt w h k =
      let entry := byte (16 + 4 * k) + 256 * byte (17 + 4 * k) + 65536 * byte (18 + 4 * k) + 16777216 * byte (19 + 4 * k)
      if 16 + 4 * ((w + 15) / 16 * ((h + 7) / 8)) ≤ entry ∧ entry < img.size then ptcTile img fmt entry else none
end

