-- ==== Sys2Proof/Laws/Memory.lean ====
section
/-! SUPPORT. Every operation over a byte memory keeps its canonical form, and what a listed byte and a keyed list read as. -/

namespace Sys2Proof.Machine

/-! ### The canonical form -/

theorem memWf_nil : memWf [] := by simp [memWf]

theorem cellsOf_ge (a : Nat) (bs : List Byte) : ∀ c ∈ cellsOf a bs, a ≤ c.1 ∧ c.1 < a + bs.length := by
  induction bs generalizing a with
  | nil => simp [cellsOf]
  | cons b bs ih =>
    intro c hc
    have h2 := ih (a + 1)
    simp only [cellsOf] at hc
    split at hc
    · have := h2 c hc; simp; omega
    · rcases List.mem_cons.mp hc with h | h
      · subst h; simp
      · have := h2 c h; simp; omega

theorem cellsOf_wf (a : Nat) (bs : List Byte) : memWf (cellsOf a bs) := by
  induction bs generalizing a with
  | nil => simp [cellsOf, memWf]
  | cons b bs ih =>
    simp only [cellsOf]
    split
    · exact ih _
    · rename_i hb
      refine ⟨List.pairwise_cons.mpr ⟨fun c hc => ?_, (ih _).1⟩, fun c hc => ?_⟩
      · have := cellsOf_ge _ _ c hc; simp; omega
      · rcases List.mem_cons.mp hc with h | h
        · subst h; exact hb
        · exact (ih _).2 c h

theorem memWf_filter {m : List Host.Cell} (p : Host.Cell → Bool) (h : memWf m) : memWf (m.filter p) :=
  ⟨h.1.filter _, fun c hc => h.2 c (List.mem_filter.mp hc).1⟩

theorem memWf_append {m n : List Host.Cell} (hm : memWf m) (hn : memWf n) (h : ∀ c ∈ m, ∀ d ∈ n, c.1 < d.1) : memWf (m ++ n) :=
  ⟨List.pairwise_append.mpr ⟨hm.1, hn.1, h⟩, fun c hc => (List.mem_append.mp hc).elim (hm.2 c) (hn.2 c)⟩

theorem memWrite_wf {m : List Host.Cell} (a : Nat) (bs : List Byte) (h : memWf m) : memWf (memWrite m a bs) := by
  unfold memWrite
  refine memWf_append (memWf_append (memWf_filter _ h) (cellsOf_wf a bs) ?_) (memWf_filter _ h) ?_
  · intro c hc d hd
    have := (List.mem_filter.mp hc).2
    have := cellsOf_ge a bs d hd
    simp at *; omega
  · intro c hc d hd
    have h2 := (List.mem_filter.mp hd).2
    rcases List.mem_append.mp hc with hc | hc
    · have := (List.mem_filter.mp hc).2
      simp at *; omega
    · have := cellsOf_ge a bs c hc
      simp at *; omega

theorem memClear_wf {m : List Host.Cell} (a n : Nat) (h : memWf m) : memWf (memClear m a n) := by
  unfold memClear
  refine memWf_append (memWf_filter _ h) (memWf_filter _ h) ?_
  intro c hc d hd
  have := (List.mem_filter.mp hc).2
  have := (List.mem_filter.mp hd).2
  simp at *; omega

theorem bankWriteRow_wf {m : List Host.Cell} (y : Nat) (codes : List Nat) (h : memWf m) : memWf (bankWriteRow m y codes) :=
  memWrite_wf _ _ h

theorem calWrite_wf {m : List Host.Cell} (a : Nat) (bs : List Byte) (h : memWf m) : memWf (calWrite m a bs) := memWrite_wf _ _ h

theorem setDefect_wf {m : List Host.Cell} (i code : Nat) (h : memWf m) : memWf (setDefect m i code) := memWrite_wf _ _ h

theorem foldl_wf {α : Type} (f : List Host.Cell → α → List Host.Cell) (hf : ∀ m e, memWf m → memWf (f m e)) (l : List α)
    {m : List Host.Cell} (h : memWf m) : memWf (l.foldl f m) := by
  induction l generalizing m with
  | nil => exact h
  | cons e l ih => exact ih (hf m e h)

theorem putGp_wf {m : List Host.Cell} (l : List (Nat × Nat)) (h : memWf m) : memWf (putGp m l) :=
  foldl_wf _ (fun _ _ hm => calWrite_wf _ _ hm) l (memClear_wf _ _ h)

theorem putDefects_wf {m : List Host.Cell} (l : List (Nat × Nat)) (h : memWf m) : memWf (putDefects m l) :=
  foldl_wf _ (fun _ _ hm => setDefect_wf _ _ hm) l (memClear_wf _ _ h)

/-- The image of surface 0 goes in front of what lies above it. -/
theorem cells_memClear_wf {m : List Host.Cell} (bs : List Byte) (h : memWf m) :
    memWf (cellsOf 0 (bs.take 65536) ++ memClear m 0 65536) := by
  refine memWf_append (cellsOf_wf _ _) (memClear_wf _ _ h) ?_
  intro c hc d hd
  have := cellsOf_ge _ _ c hc
  simp [memClear] at hd
  simp at this
  omega

/-! ### What a memory reads -/

theorem memGet_listed {m : List Host.Cell} (h : memWf m) {a : Nat} {b : Byte} (hm : (a, b) ∈ m) : memGet m a = b := by
  unfold memGet
  induction m with
  | nil => simp at hm
  | cons c m ih =>
    obtain ⟨hp, hz⟩ := h
    rw [List.pairwise_cons] at hp
    rcases List.mem_cons.mp hm with e | hm
    · subst e; simp
    · have hlt := hp.1 _ hm
      have hne : (c.1 == a) = false := by simp at hlt ⊢; omega
      rw [List.find?_cons, hne]
      exact ih ⟨hp.2, fun c hc => hz c (List.mem_cons_of_mem _ hc)⟩ hm

theorem memGet_unlisted {m : List Host.Cell} {a : Nat} (h : ∀ c ∈ m, c.1 ≠ a) : memGet m a = 0 := by
  unfold memGet
  have : m.find? (fun c => c.1 == a) = none := by simpa [List.find?_eq_none] using h
  rw [this]

/-! ### Keyed lists -/

theorem kvSet_wf {α : Type} {m : List (Nat × α)} (k : Nat) (v : α) (h : kvWf m) : kvWf (kvSet m k v) := by
  unfold kvSet
  refine List.pairwise_append.mpr ⟨h.filter _, List.pairwise_cons.mpr ⟨fun d hd => ?_, h.filter _⟩, ?_⟩
  · simpa using (List.mem_filter.mp hd).2
  · intro c hc d hd
    have h1 := (List.mem_filter.mp hc).2
    rcases List.mem_cons.mp hd with e | hd
    · subst e; simpa using h1
    · have h2 := (List.mem_filter.mp hd).2
      simp at h1 h2; omega

theorem kvDel_wf {α : Type} {m : List (Nat × α)} (k : Nat) (h : kvWf m) : kvWf (kvDel m k) := h.filter _

theorem kvGet_kvSet_self {α : Type} (m : List (Nat × α)) (k : Nat) (v : α) : kvGet (kvSet m k v) k = some v := by
  have h : (m.filter fun c => c.1 < k).find? (fun c => c.1 == k) = none := by
    rw [List.find?_eq_none]
    intro c hc
    have := (List.mem_filter.mp hc).2
    simp at this ⊢; omega
  simp [kvGet, kvSet, List.find?_append, h]

theorem kvGet_kvSet_other {α : Type} (m : List (Nat × α)) {k j : Nat} (v : α) (hj : j ≠ k) : kvGet (kvSet m k v) j = kvGet m j := by
  have hk : (k == j) = false := by simpa using fun h => hj h.symm
  have key : ∀ l : List (Nat × α), ((l.filter fun c => c.1 < k).find? (fun c => c.1 == j)).or
      ((l.filter fun c => k < c.1).find? (fun c => c.1 == j)) = l.find? (fun c => c.1 == j) := by
    intro l
    rcases Nat.lt_or_gt_of_ne hj with h | h
    · have h1 : (l.filter fun c => k < c.1).find? (fun c => c.1 == j) = none := by
        rw [List.find?_eq_none]; intro c hc
        have := (List.mem_filter.mp hc).2
        simp at this ⊢; omega
      rw [h1, Option.or_none, List.find?_filter]
      congr 1; funext c; by_cases e : c.1 = j <;> simp [e]; omega
    · have h1 : (l.filter fun c => c.1 < k).find? (fun c => c.1 == j) = none := by
        rw [List.find?_eq_none]; intro c hc
        have := (List.mem_filter.mp hc).2
        simp at this ⊢; omega
      rw [h1, Option.none_or, List.find?_filter]
      congr 1; funext c; by_cases e : c.1 = j <;> simp [e]; omega
  unfold kvGet kvSet
  rw [List.find?_append, List.find?_cons, hk]
  simp only [key m]

end Sys2Proof.Machine
end

