-- ==== Sys2Proof/Laws/State.lean ====
section
/-! SUPPORT. Each part of State after each update of a part: true by definition, so that no proof unfolds a record update. -/

namespace Sys2Proof.Machine

variable (s : State)

@[simp] theorem onTim_pending (f : Timing → Timing) : (s.onTim f).pending = s.pending := rfl
@[simp] theorem onTim_tim (f : Timing → Timing) : (s.onTim f).tim = f s.tim := rfl
@[simp] theorem onTim_comp (f : Timing → Timing) : (s.onTim f).comp = s.comp := rfl
@[simp] theorem onTim_surf (f : Timing → Timing) : (s.onTim f).surf = s.surf := rfl
@[simp] theorem onTim_glare (f : Timing → Timing) : (s.onTim f).glare = s.glare := rfl
@[simp] theorem onTim_sense (f : Timing → Timing) : (s.onTim f).sense = s.sense := rfl
@[simp] theorem onTim_sup (f : Timing → Timing) : (s.onTim f).sup = s.sup := rfl
@[simp] theorem onTim_zones (f : Timing → Timing) : (s.onTim f).zones = s.zones := rfl
@[simp] theorem onTim_therm (f : Timing → Timing) : (s.onTim f).therm = s.therm := rfl
@[simp] theorem onTim_flt (f : Timing → Timing) : (s.onTim f).flt = s.flt := rfl
@[simp] theorem onTim_vex (f : Timing → Timing) : (s.onTim f).vex = s.vex := rfl
@[simp] theorem onTim_can (f : Timing → Timing) : (s.onTim f).can = s.can := rfl
@[simp] theorem onTim_mgmt (f : Timing → Timing) : (s.onTim f).mgmt = s.mgmt := rfl
@[simp] theorem onTim_flash (f : Timing → Timing) : (s.onTim f).flash = s.flash := rfl
@[simp] theorem onTim_dict (f : Timing → Timing) : (s.onTim f).dict = s.dict := rfl
@[simp] theorem onTim_chk (f : Timing → Timing) : (s.onTim f).chk = s.chk := rfl
@[simp] theorem onTim_pwr (f : Timing → Timing) : (s.onTim f).pwr = s.pwr := rfl
@[simp] theorem onTim_rally (f : Timing → Timing) : (s.onTim f).rally = s.rally := rfl
@[simp] theorem onTim_aux (f : Timing → Timing) : (s.onTim f).aux = s.aux := rfl
@[simp] theorem onTim_tap (f : Timing → Timing) : (s.onTim f).tap = s.tap := rfl
@[simp] theorem onTim_free (f : Timing → Timing) : (s.onTim f).free = s.free := rfl
@[simp] theorem onComp_pending (f : Composer → Composer) : (s.onComp f).pending = s.pending := rfl
@[simp] theorem onComp_tim (f : Composer → Composer) : (s.onComp f).tim = s.tim := rfl
@[simp] theorem onComp_comp (f : Composer → Composer) : (s.onComp f).comp = f s.comp := rfl
@[simp] theorem onComp_surf (f : Composer → Composer) : (s.onComp f).surf = s.surf := rfl
@[simp] theorem onComp_glare (f : Composer → Composer) : (s.onComp f).glare = s.glare := rfl
@[simp] theorem onComp_sense (f : Composer → Composer) : (s.onComp f).sense = s.sense := rfl
@[simp] theorem onComp_sup (f : Composer → Composer) : (s.onComp f).sup = s.sup := rfl
@[simp] theorem onComp_zones (f : Composer → Composer) : (s.onComp f).zones = s.zones := rfl
@[simp] theorem onComp_therm (f : Composer → Composer) : (s.onComp f).therm = s.therm := rfl
@[simp] theorem onComp_flt (f : Composer → Composer) : (s.onComp f).flt = s.flt := rfl
@[simp] theorem onComp_vex (f : Composer → Composer) : (s.onComp f).vex = s.vex := rfl
@[simp] theorem onComp_can (f : Composer → Composer) : (s.onComp f).can = s.can := rfl
@[simp] theorem onComp_mgmt (f : Composer → Composer) : (s.onComp f).mgmt = s.mgmt := rfl
@[simp] theorem onComp_flash (f : Composer → Composer) : (s.onComp f).flash = s.flash := rfl
@[simp] theorem onComp_dict (f : Composer → Composer) : (s.onComp f).dict = s.dict := rfl
@[simp] theorem onComp_chk (f : Composer → Composer) : (s.onComp f).chk = s.chk := rfl
@[simp] theorem onComp_pwr (f : Composer → Composer) : (s.onComp f).pwr = s.pwr := rfl
@[simp] theorem onComp_rally (f : Composer → Composer) : (s.onComp f).rally = s.rally := rfl
@[simp] theorem onComp_aux (f : Composer → Composer) : (s.onComp f).aux = s.aux := rfl
@[simp] theorem onComp_tap (f : Composer → Composer) : (s.onComp f).tap = s.tap := rfl
@[simp] theorem onComp_free (f : Composer → Composer) : (s.onComp f).free = s.free := rfl
@[simp] theorem onSurf_pending (f : SurfMem → SurfMem) : (s.onSurf f).pending = s.pending := rfl
@[simp] theorem onSurf_tim (f : SurfMem → SurfMem) : (s.onSurf f).tim = s.tim := rfl
@[simp] theorem onSurf_comp (f : SurfMem → SurfMem) : (s.onSurf f).comp = s.comp := rfl
@[simp] theorem onSurf_surf (f : SurfMem → SurfMem) : (s.onSurf f).surf = f s.surf := rfl
@[simp] theorem onSurf_glare (f : SurfMem → SurfMem) : (s.onSurf f).glare = s.glare := rfl
@[simp] theorem onSurf_sense (f : SurfMem → SurfMem) : (s.onSurf f).sense = s.sense := rfl
@[simp] theorem onSurf_sup (f : SurfMem → SurfMem) : (s.onSurf f).sup = s.sup := rfl
@[simp] theorem onSurf_zones (f : SurfMem → SurfMem) : (s.onSurf f).zones = s.zones := rfl
@[simp] theorem onSurf_therm (f : SurfMem → SurfMem) : (s.onSurf f).therm = s.therm := rfl
@[simp] theorem onSurf_flt (f : SurfMem → SurfMem) : (s.onSurf f).flt = s.flt := rfl
@[simp] theorem onSurf_vex (f : SurfMem → SurfMem) : (s.onSurf f).vex = s.vex := rfl
@[simp] theorem onSurf_can (f : SurfMem → SurfMem) : (s.onSurf f).can = s.can := rfl
@[simp] theorem onSurf_mgmt (f : SurfMem → SurfMem) : (s.onSurf f).mgmt = s.mgmt := rfl
@[simp] theorem onSurf_flash (f : SurfMem → SurfMem) : (s.onSurf f).flash = s.flash := rfl
@[simp] theorem onSurf_dict (f : SurfMem → SurfMem) : (s.onSurf f).dict = s.dict := rfl
@[simp] theorem onSurf_chk (f : SurfMem → SurfMem) : (s.onSurf f).chk = s.chk := rfl
@[simp] theorem onSurf_pwr (f : SurfMem → SurfMem) : (s.onSurf f).pwr = s.pwr := rfl
@[simp] theorem onSurf_rally (f : SurfMem → SurfMem) : (s.onSurf f).rally = s.rally := rfl
@[simp] theorem onSurf_aux (f : SurfMem → SurfMem) : (s.onSurf f).aux = s.aux := rfl
@[simp] theorem onSurf_tap (f : SurfMem → SurfMem) : (s.onSurf f).tap = s.tap := rfl
@[simp] theorem onSurf_free (f : SurfMem → SurfMem) : (s.onSurf f).free = s.free := rfl
@[simp] theorem onGlare_pending (f : Glare → Glare) : (s.onGlare f).pending = s.pending := rfl
@[simp] theorem onGlare_tim (f : Glare → Glare) : (s.onGlare f).tim = s.tim := rfl
@[simp] theorem onGlare_comp (f : Glare → Glare) : (s.onGlare f).comp = s.comp := rfl
@[simp] theorem onGlare_surf (f : Glare → Glare) : (s.onGlare f).surf = s.surf := rfl
@[simp] theorem onGlare_glare (f : Glare → Glare) : (s.onGlare f).glare = f s.glare := rfl
@[simp] theorem onGlare_sense (f : Glare → Glare) : (s.onGlare f).sense = s.sense := rfl
@[simp] theorem onGlare_sup (f : Glare → Glare) : (s.onGlare f).sup = s.sup := rfl
@[simp] theorem onGlare_zones (f : Glare → Glare) : (s.onGlare f).zones = s.zones := rfl
@[simp] theorem onGlare_therm (f : Glare → Glare) : (s.onGlare f).therm = s.therm := rfl
@[simp] theorem onGlare_flt (f : Glare → Glare) : (s.onGlare f).flt = s.flt := rfl
@[simp] theorem onGlare_vex (f : Glare → Glare) : (s.onGlare f).vex = s.vex := rfl
@[simp] theorem onGlare_can (f : Glare → Glare) : (s.onGlare f).can = s.can := rfl
@[simp] theorem onGlare_mgmt (f : Glare → Glare) : (s.onGlare f).mgmt = s.mgmt := rfl
@[simp] theorem onGlare_flash (f : Glare → Glare) : (s.onGlare f).flash = s.flash := rfl
@[simp] theorem onGlare_dict (f : Glare → Glare) : (s.onGlare f).dict = s.dict := rfl
@[simp] theorem onGlare_chk (f : Glare → Glare) : (s.onGlare f).chk = s.chk := rfl
@[simp] theorem onGlare_pwr (f : Glare → Glare) : (s.onGlare f).pwr = s.pwr := rfl
@[simp] theorem onGlare_rally (f : Glare → Glare) : (s.onGlare f).rally = s.rally := rfl
@[simp] theorem onGlare_aux (f : Glare → Glare) : (s.onGlare f).aux = s.aux := rfl
@[simp] theorem onGlare_tap (f : Glare → Glare) : (s.onGlare f).tap = s.tap := rfl
@[simp] theorem onGlare_free (f : Glare → Glare) : (s.onGlare f).free = s.free := rfl
@[simp] theorem onSense_pending (f : Sense → Sense) : (s.onSense f).pending = s.pending := rfl
@[simp] theorem onSense_tim (f : Sense → Sense) : (s.onSense f).tim = s.tim := rfl
@[simp] theorem onSense_comp (f : Sense → Sense) : (s.onSense f).comp = s.comp := rfl
@[simp] theorem onSense_surf (f : Sense → Sense) : (s.onSense f).surf = s.surf := rfl
@[simp] theorem onSense_glare (f : Sense → Sense) : (s.onSense f).glare = s.glare := rfl
@[simp] theorem onSense_sense (f : Sense → Sense) : (s.onSense f).sense = f s.sense := rfl
@[simp] theorem onSense_sup (f : Sense → Sense) : (s.onSense f).sup = s.sup := rfl
@[simp] theorem onSense_zones (f : Sense → Sense) : (s.onSense f).zones = s.zones := rfl
@[simp] theorem onSense_therm (f : Sense → Sense) : (s.onSense f).therm = s.therm := rfl
@[simp] theorem onSense_flt (f : Sense → Sense) : (s.onSense f).flt = s.flt := rfl
@[simp] theorem onSense_vex (f : Sense → Sense) : (s.onSense f).vex = s.vex := rfl
@[simp] theorem onSense_can (f : Sense → Sense) : (s.onSense f).can = s.can := rfl
@[simp] theorem onSense_mgmt (f : Sense → Sense) : (s.onSense f).mgmt = s.mgmt := rfl
@[simp] theorem onSense_flash (f : Sense → Sense) : (s.onSense f).flash = s.flash := rfl
@[simp] theorem onSense_dict (f : Sense → Sense) : (s.onSense f).dict = s.dict := rfl
@[simp] theorem onSense_chk (f : Sense → Sense) : (s.onSense f).chk = s.chk := rfl
@[simp] theorem onSense_pwr (f : Sense → Sense) : (s.onSense f).pwr = s.pwr := rfl
@[simp] theorem onSense_rally (f : Sense → Sense) : (s.onSense f).rally = s.rally := rfl
@[simp] theorem onSense_aux (f : Sense → Sense) : (s.onSense f).aux = s.aux := rfl
@[simp] theorem onSense_tap (f : Sense → Sense) : (s.onSense f).tap = s.tap := rfl
@[simp] theorem onSense_free (f : Sense → Sense) : (s.onSense f).free = s.free := rfl
@[simp] theorem onSup_pending (f : Supply → Supply) : (s.onSup f).pending = s.pending := rfl
@[simp] theorem onSup_tim (f : Supply → Supply) : (s.onSup f).tim = s.tim := rfl
@[simp] theorem onSup_comp (f : Supply → Supply) : (s.onSup f).comp = s.comp := rfl
@[simp] theorem onSup_surf (f : Supply → Supply) : (s.onSup f).surf = s.surf := rfl
@[simp] theorem onSup_glare (f : Supply → Supply) : (s.onSup f).glare = s.glare := rfl
@[simp] theorem onSup_sense (f : Supply → Supply) : (s.onSup f).sense = s.sense := rfl
@[simp] theorem onSup_sup (f : Supply → Supply) : (s.onSup f).sup = f s.sup := rfl
@[simp] theorem onSup_zones (f : Supply → Supply) : (s.onSup f).zones = s.zones := rfl
@[simp] theorem onSup_therm (f : Supply → Supply) : (s.onSup f).therm = s.therm := rfl
@[simp] theorem onSup_flt (f : Supply → Supply) : (s.onSup f).flt = s.flt := rfl
@[simp] theorem onSup_vex (f : Supply → Supply) : (s.onSup f).vex = s.vex := rfl
@[simp] theorem onSup_can (f : Supply → Supply) : (s.onSup f).can = s.can := rfl
@[simp] theorem onSup_mgmt (f : Supply → Supply) : (s.onSup f).mgmt = s.mgmt := rfl
@[simp] theorem onSup_flash (f : Supply → Supply) : (s.onSup f).flash = s.flash := rfl
@[simp] theorem onSup_dict (f : Supply → Supply) : (s.onSup f).dict = s.dict := rfl
@[simp] theorem onSup_chk (f : Supply → Supply) : (s.onSup f).chk = s.chk := rfl
@[simp] theorem onSup_pwr (f : Supply → Supply) : (s.onSup f).pwr = s.pwr := rfl
@[simp] theorem onSup_rally (f : Supply → Supply) : (s.onSup f).rally = s.rally := rfl
@[simp] theorem onSup_aux (f : Supply → Supply) : (s.onSup f).aux = s.aux := rfl
@[simp] theorem onSup_tap (f : Supply → Supply) : (s.onSup f).tap = s.tap := rfl
@[simp] theorem onSup_free (f : Supply → Supply) : (s.onSup f).free = s.free := rfl
@[simp] theorem onTherm_pending (f : Thermal → Thermal) : (s.onTherm f).pending = s.pending := rfl
@[simp] theorem onTherm_tim (f : Thermal → Thermal) : (s.onTherm f).tim = s.tim := rfl
@[simp] theorem onTherm_comp (f : Thermal → Thermal) : (s.onTherm f).comp = s.comp := rfl
@[simp] theorem onTherm_surf (f : Thermal → Thermal) : (s.onTherm f).surf = s.surf := rfl
@[simp] theorem onTherm_glare (f : Thermal → Thermal) : (s.onTherm f).glare = s.glare := rfl
@[simp] theorem onTherm_sense (f : Thermal → Thermal) : (s.onTherm f).sense = s.sense := rfl
@[simp] theorem onTherm_sup (f : Thermal → Thermal) : (s.onTherm f).sup = s.sup := rfl
@[simp] theorem onTherm_zones (f : Thermal → Thermal) : (s.onTherm f).zones = s.zones := rfl
@[simp] theorem onTherm_therm (f : Thermal → Thermal) : (s.onTherm f).therm = f s.therm := rfl
@[simp] theorem onTherm_flt (f : Thermal → Thermal) : (s.onTherm f).flt = s.flt := rfl
@[simp] theorem onTherm_vex (f : Thermal → Thermal) : (s.onTherm f).vex = s.vex := rfl
@[simp] theorem onTherm_can (f : Thermal → Thermal) : (s.onTherm f).can = s.can := rfl
@[simp] theorem onTherm_mgmt (f : Thermal → Thermal) : (s.onTherm f).mgmt = s.mgmt := rfl
@[simp] theorem onTherm_flash (f : Thermal → Thermal) : (s.onTherm f).flash = s.flash := rfl
@[simp] theorem onTherm_dict (f : Thermal → Thermal) : (s.onTherm f).dict = s.dict := rfl
@[simp] theorem onTherm_chk (f : Thermal → Thermal) : (s.onTherm f).chk = s.chk := rfl
@[simp] theorem onTherm_pwr (f : Thermal → Thermal) : (s.onTherm f).pwr = s.pwr := rfl
@[simp] theorem onTherm_rally (f : Thermal → Thermal) : (s.onTherm f).rally = s.rally := rfl
@[simp] theorem onTherm_aux (f : Thermal → Thermal) : (s.onTherm f).aux = s.aux := rfl
@[simp] theorem onTherm_tap (f : Thermal → Thermal) : (s.onTherm f).tap = s.tap := rfl
@[simp] theorem onTherm_free (f : Thermal → Thermal) : (s.onTherm f).free = s.free := rfl
@[simp] theorem onFlt_pending (f : Faults → Faults) : (s.onFlt f).pending = s.pending := rfl
@[simp] theorem onFlt_tim (f : Faults → Faults) : (s.onFlt f).tim = s.tim := rfl
@[simp] theorem onFlt_comp (f : Faults → Faults) : (s.onFlt f).comp = s.comp := rfl
@[simp] theorem onFlt_surf (f : Faults → Faults) : (s.onFlt f).surf = s.surf := rfl
@[simp] theorem onFlt_glare (f : Faults → Faults) : (s.onFlt f).glare = s.glare := rfl
@[simp] theorem onFlt_sense (f : Faults → Faults) : (s.onFlt f).sense = s.sense := rfl
@[simp] theorem onFlt_sup (f : Faults → Faults) : (s.onFlt f).sup = s.sup := rfl
@[simp] theorem onFlt_zones (f : Faults → Faults) : (s.onFlt f).zones = s.zones := rfl
@[simp] theorem onFlt_therm (f : Faults → Faults) : (s.onFlt f).therm = s.therm := rfl
@[simp] theorem onFlt_flt (f : Faults → Faults) : (s.onFlt f).flt = f s.flt := rfl
@[simp] theorem onFlt_vex (f : Faults → Faults) : (s.onFlt f).vex = s.vex := rfl
@[simp] theorem onFlt_can (f : Faults → Faults) : (s.onFlt f).can = s.can := rfl
@[simp] theorem onFlt_mgmt (f : Faults → Faults) : (s.onFlt f).mgmt = s.mgmt := rfl
@[simp] theorem onFlt_flash (f : Faults → Faults) : (s.onFlt f).flash = s.flash := rfl
@[simp] theorem onFlt_dict (f : Faults → Faults) : (s.onFlt f).dict = s.dict := rfl
@[simp] theorem onFlt_chk (f : Faults → Faults) : (s.onFlt f).chk = s.chk := rfl
@[simp] theorem onFlt_pwr (f : Faults → Faults) : (s.onFlt f).pwr = s.pwr := rfl
@[simp] theorem onFlt_rally (f : Faults → Faults) : (s.onFlt f).rally = s.rally := rfl
@[simp] theorem onFlt_aux (f : Faults → Faults) : (s.onFlt f).aux = s.aux := rfl
@[simp] theorem onFlt_tap (f : Faults → Faults) : (s.onFlt f).tap = s.tap := rfl
@[simp] theorem onFlt_free (f : Faults → Faults) : (s.onFlt f).free = s.free := rfl
@[simp] theorem onVex_pending (f : Vex → Vex) : (s.onVex f).pending = s.pending := rfl
@[simp] theorem onVex_tim (f : Vex → Vex) : (s.onVex f).tim = s.tim := rfl
@[simp] theorem onVex_comp (f : Vex → Vex) : (s.onVex f).comp = s.comp := rfl
@[simp] theorem onVex_surf (f : Vex → Vex) : (s.onVex f).surf = s.surf := rfl
@[simp] theorem onVex_glare (f : Vex → Vex) : (s.onVex f).glare = s.glare := rfl
@[simp] theorem onVex_sense (f : Vex → Vex) : (s.onVex f).sense = s.sense := rfl
@[simp] theorem onVex_sup (f : Vex → Vex) : (s.onVex f).sup = s.sup := rfl
@[simp] theorem onVex_zones (f : Vex → Vex) : (s.onVex f).zones = s.zones := rfl
@[simp] theorem onVex_therm (f : Vex → Vex) : (s.onVex f).therm = s.therm := rfl
@[simp] theorem onVex_flt (f : Vex → Vex) : (s.onVex f).flt = s.flt := rfl
@[simp] theorem onVex_vex (f : Vex → Vex) : (s.onVex f).vex = f s.vex := rfl
@[simp] theorem onVex_can (f : Vex → Vex) : (s.onVex f).can = s.can := rfl
@[simp] theorem onVex_mgmt (f : Vex → Vex) : (s.onVex f).mgmt = s.mgmt := rfl
@[simp] theorem onVex_flash (f : Vex → Vex) : (s.onVex f).flash = s.flash := rfl
@[simp] theorem onVex_dict (f : Vex → Vex) : (s.onVex f).dict = s.dict := rfl
@[simp] theorem onVex_chk (f : Vex → Vex) : (s.onVex f).chk = s.chk := rfl
@[simp] theorem onVex_pwr (f : Vex → Vex) : (s.onVex f).pwr = s.pwr := rfl
@[simp] theorem onVex_rally (f : Vex → Vex) : (s.onVex f).rally = s.rally := rfl
@[simp] theorem onVex_aux (f : Vex → Vex) : (s.onVex f).aux = s.aux := rfl
@[simp] theorem onVex_tap (f : Vex → Vex) : (s.onVex f).tap = s.tap := rfl
@[simp] theorem onVex_free (f : Vex → Vex) : (s.onVex f).free = s.free := rfl
@[simp] theorem onCan_pending (f : Can → Can) : (s.onCan f).pending = s.pending := rfl
@[simp] theorem onCan_tim (f : Can → Can) : (s.onCan f).tim = s.tim := rfl
@[simp] theorem onCan_comp (f : Can → Can) : (s.onCan f).comp = s.comp := rfl
@[simp] theorem onCan_surf (f : Can → Can) : (s.onCan f).surf = s.surf := rfl
@[simp] theorem onCan_glare (f : Can → Can) : (s.onCan f).glare = s.glare := rfl
@[simp] theorem onCan_sense (f : Can → Can) : (s.onCan f).sense = s.sense := rfl
@[simp] theorem onCan_sup (f : Can → Can) : (s.onCan f).sup = s.sup := rfl
@[simp] theorem onCan_zones (f : Can → Can) : (s.onCan f).zones = s.zones := rfl
@[simp] theorem onCan_therm (f : Can → Can) : (s.onCan f).therm = s.therm := rfl
@[simp] theorem onCan_flt (f : Can → Can) : (s.onCan f).flt = s.flt := rfl
@[simp] theorem onCan_vex (f : Can → Can) : (s.onCan f).vex = s.vex := rfl
@[simp] theorem onCan_can (f : Can → Can) : (s.onCan f).can = f s.can := rfl
@[simp] theorem onCan_mgmt (f : Can → Can) : (s.onCan f).mgmt = s.mgmt := rfl
@[simp] theorem onCan_flash (f : Can → Can) : (s.onCan f).flash = s.flash := rfl
@[simp] theorem onCan_dict (f : Can → Can) : (s.onCan f).dict = s.dict := rfl
@[simp] theorem onCan_chk (f : Can → Can) : (s.onCan f).chk = s.chk := rfl
@[simp] theorem onCan_pwr (f : Can → Can) : (s.onCan f).pwr = s.pwr := rfl
@[simp] theorem onCan_rally (f : Can → Can) : (s.onCan f).rally = s.rally := rfl
@[simp] theorem onCan_aux (f : Can → Can) : (s.onCan f).aux = s.aux := rfl
@[simp] theorem onCan_tap (f : Can → Can) : (s.onCan f).tap = s.tap := rfl
@[simp] theorem onCan_free (f : Can → Can) : (s.onCan f).free = s.free := rfl
@[simp] theorem onMgmt_pending (f : Mgmt → Mgmt) : (s.onMgmt f).pending = s.pending := rfl
@[simp] theorem onMgmt_tim (f : Mgmt → Mgmt) : (s.onMgmt f).tim = s.tim := rfl
@[simp] theorem onMgmt_comp (f : Mgmt → Mgmt) : (s.onMgmt f).comp = s.comp := rfl
@[simp] theorem onMgmt_surf (f : Mgmt → Mgmt) : (s.onMgmt f).surf = s.surf := rfl
@[simp] theorem onMgmt_glare (f : Mgmt → Mgmt) : (s.onMgmt f).glare = s.glare := rfl
@[simp] theorem onMgmt_sense (f : Mgmt → Mgmt) : (s.onMgmt f).sense = s.sense := rfl
@[simp] theorem onMgmt_sup (f : Mgmt → Mgmt) : (s.onMgmt f).sup = s.sup := rfl
@[simp] theorem onMgmt_zones (f : Mgmt → Mgmt) : (s.onMgmt f).zones = s.zones := rfl
@[simp] theorem onMgmt_therm (f : Mgmt → Mgmt) : (s.onMgmt f).therm = s.therm := rfl
@[simp] theorem onMgmt_flt (f : Mgmt → Mgmt) : (s.onMgmt f).flt = s.flt := rfl
@[simp] theorem onMgmt_vex (f : Mgmt → Mgmt) : (s.onMgmt f).vex = s.vex := rfl
@[simp] theorem onMgmt_can (f : Mgmt → Mgmt) : (s.onMgmt f).can = s.can := rfl
@[simp] theorem onMgmt_mgmt (f : Mgmt → Mgmt) : (s.onMgmt f).mgmt = f s.mgmt := rfl
@[simp] theorem onMgmt_flash (f : Mgmt → Mgmt) : (s.onMgmt f).flash = s.flash := rfl
@[simp] theorem onMgmt_dict (f : Mgmt → Mgmt) : (s.onMgmt f).dict = s.dict := rfl
@[simp] theorem onMgmt_chk (f : Mgmt → Mgmt) : (s.onMgmt f).chk = s.chk := rfl
@[simp] theorem onMgmt_pwr (f : Mgmt → Mgmt) : (s.onMgmt f).pwr = s.pwr := rfl
@[simp] theorem onMgmt_rally (f : Mgmt → Mgmt) : (s.onMgmt f).rally = s.rally := rfl
@[simp] theorem onMgmt_aux (f : Mgmt → Mgmt) : (s.onMgmt f).aux = s.aux := rfl
@[simp] theorem onMgmt_tap (f : Mgmt → Mgmt) : (s.onMgmt f).tap = s.tap := rfl
@[simp] theorem onMgmt_free (f : Mgmt → Mgmt) : (s.onMgmt f).free = s.free := rfl
@[simp] theorem onFlash_pending (f : Flash → Flash) : (s.onFlash f).pending = s.pending := rfl
@[simp] theorem onFlash_tim (f : Flash → Flash) : (s.onFlash f).tim = s.tim := rfl
@[simp] theorem onFlash_comp (f : Flash → Flash) : (s.onFlash f).comp = s.comp := rfl
@[simp] theorem onFlash_surf (f : Flash → Flash) : (s.onFlash f).surf = s.surf := rfl
@[simp] theorem onFlash_glare (f : Flash → Flash) : (s.onFlash f).glare = s.glare := rfl
@[simp] theorem onFlash_sense (f : Flash → Flash) : (s.onFlash f).sense = s.sense := rfl
@[simp] theorem onFlash_sup (f : Flash → Flash) : (s.onFlash f).sup = s.sup := rfl
@[simp] theorem onFlash_zones (f : Flash → Flash) : (s.onFlash f).zones = s.zones := rfl
@[simp] theorem onFlash_therm (f : Flash → Flash) : (s.onFlash f).therm = s.therm := rfl
@[simp] theorem onFlash_flt (f : Flash → Flash) : (s.onFlash f).flt = s.flt := rfl
@[simp] theorem onFlash_vex (f : Flash → Flash) : (s.onFlash f).vex = s.vex := rfl
@[simp] theorem onFlash_can (f : Flash → Flash) : (s.onFlash f).can = s.can := rfl
@[simp] theorem onFlash_mgmt (f : Flash → Flash) : (s.onFlash f).mgmt = s.mgmt := rfl
@[simp] theorem onFlash_flash (f : Flash → Flash) : (s.onFlash f).flash = f s.flash := rfl
@[simp] theorem onFlash_dict (f : Flash → Flash) : (s.onFlash f).dict = s.dict := rfl
@[simp] theorem onFlash_chk (f : Flash → Flash) : (s.onFlash f).chk = s.chk := rfl
@[simp] theorem onFlash_pwr (f : Flash → Flash) : (s.onFlash f).pwr = s.pwr := rfl
@[simp] theorem onFlash_rally (f : Flash → Flash) : (s.onFlash f).rally = s.rally := rfl
@[simp] theorem onFlash_aux (f : Flash → Flash) : (s.onFlash f).aux = s.aux := rfl
@[simp] theorem onFlash_tap (f : Flash → Flash) : (s.onFlash f).tap = s.tap := rfl
@[simp] theorem onFlash_free (f : Flash → Flash) : (s.onFlash f).free = s.free := rfl
@[simp] theorem onDict_pending (f : Dict → Dict) : (s.onDict f).pending = s.pending := rfl
@[simp] theorem onDict_tim (f : Dict → Dict) : (s.onDict f).tim = s.tim := rfl
@[simp] theorem onDict_comp (f : Dict → Dict) : (s.onDict f).comp = s.comp := rfl
@[simp] theorem onDict_surf (f : Dict → Dict) : (s.onDict f).surf = s.surf := rfl
@[simp] theorem onDict_glare (f : Dict → Dict) : (s.onDict f).glare = s.glare := rfl
@[simp] theorem onDict_sense (f : Dict → Dict) : (s.onDict f).sense = s.sense := rfl
@[simp] theorem onDict_sup (f : Dict → Dict) : (s.onDict f).sup = s.sup := rfl
@[simp] theorem onDict_zones (f : Dict → Dict) : (s.onDict f).zones = s.zones := rfl
@[simp] theorem onDict_therm (f : Dict → Dict) : (s.onDict f).therm = s.therm := rfl
@[simp] theorem onDict_flt (f : Dict → Dict) : (s.onDict f).flt = s.flt := rfl
@[simp] theorem onDict_vex (f : Dict → Dict) : (s.onDict f).vex = s.vex := rfl
@[simp] theorem onDict_can (f : Dict → Dict) : (s.onDict f).can = s.can := rfl
@[simp] theorem onDict_mgmt (f : Dict → Dict) : (s.onDict f).mgmt = s.mgmt := rfl
@[simp] theorem onDict_flash (f : Dict → Dict) : (s.onDict f).flash = s.flash := rfl
@[simp] theorem onDict_dict (f : Dict → Dict) : (s.onDict f).dict = f s.dict := rfl
@[simp] theorem onDict_chk (f : Dict → Dict) : (s.onDict f).chk = s.chk := rfl
@[simp] theorem onDict_pwr (f : Dict → Dict) : (s.onDict f).pwr = s.pwr := rfl
@[simp] theorem onDict_rally (f : Dict → Dict) : (s.onDict f).rally = s.rally := rfl
@[simp] theorem onDict_aux (f : Dict → Dict) : (s.onDict f).aux = s.aux := rfl
@[simp] theorem onDict_tap (f : Dict → Dict) : (s.onDict f).tap = s.tap := rfl
@[simp] theorem onDict_free (f : Dict → Dict) : (s.onDict f).free = s.free := rfl
@[simp] theorem onChk_pending (f : Checks → Checks) : (s.onChk f).pending = s.pending := rfl
@[simp] theorem onChk_tim (f : Checks → Checks) : (s.onChk f).tim = s.tim := rfl
@[simp] theorem onChk_comp (f : Checks → Checks) : (s.onChk f).comp = s.comp := rfl
@[simp] theorem onChk_surf (f : Checks → Checks) : (s.onChk f).surf = s.surf := rfl
@[simp] theorem onChk_glare (f : Checks → Checks) : (s.onChk f).glare = s.glare := rfl
@[simp] theorem onChk_sense (f : Checks → Checks) : (s.onChk f).sense = s.sense := rfl
@[simp] theorem onChk_sup (f : Checks → Checks) : (s.onChk f).sup = s.sup := rfl
@[simp] theorem onChk_zones (f : Checks → Checks) : (s.onChk f).zones = s.zones := rfl
@[simp] theorem onChk_therm (f : Checks → Checks) : (s.onChk f).therm = s.therm := rfl
@[simp] theorem onChk_flt (f : Checks → Checks) : (s.onChk f).flt = s.flt := rfl
@[simp] theorem onChk_vex (f : Checks → Checks) : (s.onChk f).vex = s.vex := rfl
@[simp] theorem onChk_can (f : Checks → Checks) : (s.onChk f).can = s.can := rfl
@[simp] theorem onChk_mgmt (f : Checks → Checks) : (s.onChk f).mgmt = s.mgmt := rfl
@[simp] theorem onChk_flash (f : Checks → Checks) : (s.onChk f).flash = s.flash := rfl
@[simp] theorem onChk_dict (f : Checks → Checks) : (s.onChk f).dict = s.dict := rfl
@[simp] theorem onChk_chk (f : Checks → Checks) : (s.onChk f).chk = f s.chk := rfl
@[simp] theorem onChk_pwr (f : Checks → Checks) : (s.onChk f).pwr = s.pwr := rfl
@[simp] theorem onChk_rally (f : Checks → Checks) : (s.onChk f).rally = s.rally := rfl
@[simp] theorem onChk_aux (f : Checks → Checks) : (s.onChk f).aux = s.aux := rfl
@[simp] theorem onChk_tap (f : Checks → Checks) : (s.onChk f).tap = s.tap := rfl
@[simp] theorem onChk_free (f : Checks → Checks) : (s.onChk f).free = s.free := rfl
@[simp] theorem onPwr_pending (f : Power → Power) : (s.onPwr f).pending = s.pending := rfl
@[simp] theorem onPwr_tim (f : Power → Power) : (s.onPwr f).tim = s.tim := rfl
@[simp] theorem onPwr_comp (f : Power → Power) : (s.onPwr f).comp = s.comp := rfl
@[simp] theorem onPwr_surf (f : Power → Power) : (s.onPwr f).surf = s.surf := rfl
@[simp] theorem onPwr_glare (f : Power → Power) : (s.onPwr f).glare = s.glare := rfl
@[simp] theorem onPwr_sense (f : Power → Power) : (s.onPwr f).sense = s.sense := rfl
@[simp] theorem onPwr_sup (f : Power → Power) : (s.onPwr f).sup = s.sup := rfl
@[simp] theorem onPwr_zones (f : Power → Power) : (s.onPwr f).zones = s.zones := rfl
@[simp] theorem onPwr_therm (f : Power → Power) : (s.onPwr f).therm = s.therm := rfl
@[simp] theorem onPwr_flt (f : Power → Power) : (s.onPwr f).flt = s.flt := rfl
@[simp] theorem onPwr_vex (f : Power → Power) : (s.onPwr f).vex = s.vex := rfl
@[simp] theorem onPwr_can (f : Power → Power) : (s.onPwr f).can = s.can := rfl
@[simp] theorem onPwr_mgmt (f : Power → Power) : (s.onPwr f).mgmt = s.mgmt := rfl
@[simp] theorem onPwr_flash (f : Power → Power) : (s.onPwr f).flash = s.flash := rfl
@[simp] theorem onPwr_dict (f : Power → Power) : (s.onPwr f).dict = s.dict := rfl
@[simp] theorem onPwr_chk (f : Power → Power) : (s.onPwr f).chk = s.chk := rfl
@[simp] theorem onPwr_pwr (f : Power → Power) : (s.onPwr f).pwr = f s.pwr := rfl
@[simp] theorem onPwr_rally (f : Power → Power) : (s.onPwr f).rally = s.rally := rfl
@[simp] theorem onPwr_aux (f : Power → Power) : (s.onPwr f).aux = s.aux := rfl
@[simp] theorem onPwr_tap (f : Power → Power) : (s.onPwr f).tap = s.tap := rfl
@[simp] theorem onPwr_free (f : Power → Power) : (s.onPwr f).free = s.free := rfl
@[simp] theorem onRally_pending (f : Rally → Rally) : (s.onRally f).pending = s.pending := rfl
@[simp] theorem onRally_tim (f : Rally → Rally) : (s.onRally f).tim = s.tim := rfl
@[simp] theorem onRally_comp (f : Rally → Rally) : (s.onRally f).comp = s.comp := rfl
@[simp] theorem onRally_surf (f : Rally → Rally) : (s.onRally f).surf = s.surf := rfl
@[simp] theorem onRally_glare (f : Rally → Rally) : (s.onRally f).glare = s.glare := rfl
@[simp] theorem onRally_sense (f : Rally → Rally) : (s.onRally f).sense = s.sense := rfl
@[simp] theorem onRally_sup (f : Rally → Rally) : (s.onRally f).sup = s.sup := rfl
@[simp] theorem onRally_zones (f : Rally → Rally) : (s.onRally f).zones = s.zones := rfl
@[simp] theorem onRally_therm (f : Rally → Rally) : (s.onRally f).therm = s.therm := rfl
@[simp] theorem onRally_flt (f : Rally → Rally) : (s.onRally f).flt = s.flt := rfl
@[simp] theorem onRally_vex (f : Rally → Rally) : (s.onRally f).vex = s.vex := rfl
@[simp] theorem onRally_can (f : Rally → Rally) : (s.onRally f).can = s.can := rfl
@[simp] theorem onRally_mgmt (f : Rally → Rally) : (s.onRally f).mgmt = s.mgmt := rfl
@[simp] theorem onRally_flash (f : Rally → Rally) : (s.onRally f).flash = s.flash := rfl
@[simp] theorem onRally_dict (f : Rally → Rally) : (s.onRally f).dict = s.dict := rfl
@[simp] theorem onRally_chk (f : Rally → Rally) : (s.onRally f).chk = s.chk := rfl
@[simp] theorem onRally_pwr (f : Rally → Rally) : (s.onRally f).pwr = s.pwr := rfl
@[simp] theorem onRally_rally (f : Rally → Rally) : (s.onRally f).rally = f s.rally := rfl
@[simp] theorem onRally_aux (f : Rally → Rally) : (s.onRally f).aux = s.aux := rfl
@[simp] theorem onRally_tap (f : Rally → Rally) : (s.onRally f).tap = s.tap := rfl
@[simp] theorem onRally_free (f : Rally → Rally) : (s.onRally f).free = s.free := rfl
@[simp] theorem onAux_pending (f : Aux → Aux) : (s.onAux f).pending = s.pending := rfl
@[simp] theorem onAux_tim (f : Aux → Aux) : (s.onAux f).tim = s.tim := rfl
@[simp] theorem onAux_comp (f : Aux → Aux) : (s.onAux f).comp = s.comp := rfl
@[simp] theorem onAux_surf (f : Aux → Aux) : (s.onAux f).surf = s.surf := rfl
@[simp] theorem onAux_glare (f : Aux → Aux) : (s.onAux f).glare = s.glare := rfl
@[simp] theorem onAux_sense (f : Aux → Aux) : (s.onAux f).sense = s.sense := rfl
@[simp] theorem onAux_sup (f : Aux → Aux) : (s.onAux f).sup = s.sup := rfl
@[simp] theorem onAux_zones (f : Aux → Aux) : (s.onAux f).zones = s.zones := rfl
@[simp] theorem onAux_therm (f : Aux → Aux) : (s.onAux f).therm = s.therm := rfl
@[simp] theorem onAux_flt (f : Aux → Aux) : (s.onAux f).flt = s.flt := rfl
@[simp] theorem onAux_vex (f : Aux → Aux) : (s.onAux f).vex = s.vex := rfl
@[simp] theorem onAux_can (f : Aux → Aux) : (s.onAux f).can = s.can := rfl
@[simp] theorem onAux_mgmt (f : Aux → Aux) : (s.onAux f).mgmt = s.mgmt := rfl
@[simp] theorem onAux_flash (f : Aux → Aux) : (s.onAux f).flash = s.flash := rfl
@[simp] theorem onAux_dict (f : Aux → Aux) : (s.onAux f).dict = s.dict := rfl
@[simp] theorem onAux_chk (f : Aux → Aux) : (s.onAux f).chk = s.chk := rfl
@[simp] theorem onAux_pwr (f : Aux → Aux) : (s.onAux f).pwr = s.pwr := rfl
@[simp] theorem onAux_rally (f : Aux → Aux) : (s.onAux f).rally = s.rally := rfl
@[simp] theorem onAux_aux (f : Aux → Aux) : (s.onAux f).aux = f s.aux := rfl
@[simp] theorem onAux_tap (f : Aux → Aux) : (s.onAux f).tap = s.tap := rfl
@[simp] theorem onAux_free (f : Aux → Aux) : (s.onAux f).free = s.free := rfl
@[simp] theorem onZone_pending (z : Nat) (f : Zone → Zone) : (s.onZone z f).pending = s.pending := rfl
@[simp] theorem onZones_pending (f : Nat → Zone → Zone) : (s.onZones f).pending = s.pending := rfl
@[simp] theorem onZone_tim (z : Nat) (f : Zone → Zone) : (s.onZone z f).tim = s.tim := rfl
@[simp] theorem onZones_tim (f : Nat → Zone → Zone) : (s.onZones f).tim = s.tim := rfl
@[simp] theorem onZone_comp (z : Nat) (f : Zone → Zone) : (s.onZone z f).comp = s.comp := rfl
@[simp] theorem onZones_comp (f : Nat → Zone → Zone) : (s.onZones f).comp = s.comp := rfl
@[simp] theorem onZone_surf (z : Nat) (f : Zone → Zone) : (s.onZone z f).surf = s.surf := rfl
@[simp] theorem onZones_surf (f : Nat → Zone → Zone) : (s.onZones f).surf = s.surf := rfl
@[simp] theorem onZone_glare (z : Nat) (f : Zone → Zone) : (s.onZone z f).glare = s.glare := rfl
@[simp] theorem onZones_glare (f : Nat → Zone → Zone) : (s.onZones f).glare = s.glare := rfl
@[simp] theorem onZone_sense (z : Nat) (f : Zone → Zone) : (s.onZone z f).sense = s.sense := rfl
@[simp] theorem onZones_sense (f : Nat → Zone → Zone) : (s.onZones f).sense = s.sense := rfl
@[simp] theorem onZone_sup (z : Nat) (f : Zone → Zone) : (s.onZone z f).sup = s.sup := rfl
@[simp] theorem onZones_sup (f : Nat → Zone → Zone) : (s.onZones f).sup = s.sup := rfl
@[simp] theorem onZone_therm (z : Nat) (f : Zone → Zone) : (s.onZone z f).therm = s.therm := rfl
@[simp] theorem onZones_therm (f : Nat → Zone → Zone) : (s.onZones f).therm = s.therm := rfl
@[simp] theorem onZone_flt (z : Nat) (f : Zone → Zone) : (s.onZone z f).flt = s.flt := rfl
@[simp] theorem onZones_flt (f : Nat → Zone → Zone) : (s.onZones f).flt = s.flt := rfl
@[simp] theorem onZone_vex (z : Nat) (f : Zone → Zone) : (s.onZone z f).vex = s.vex := rfl
@[simp] theorem onZones_vex (f : Nat → Zone → Zone) : (s.onZones f).vex = s.vex := rfl
@[simp] theorem onZone_can (z : Nat) (f : Zone → Zone) : (s.onZone z f).can = s.can := rfl
@[simp] theorem onZones_can (f : Nat → Zone → Zone) : (s.onZones f).can = s.can := rfl
@[simp] theorem onZone_mgmt (z : Nat) (f : Zone → Zone) : (s.onZone z f).mgmt = s.mgmt := rfl
@[simp] theorem onZones_mgmt (f : Nat → Zone → Zone) : (s.onZones f).mgmt = s.mgmt := rfl
@[simp] theorem onZone_flash (z : Nat) (f : Zone → Zone) : (s.onZone z f).flash = s.flash := rfl
@[simp] theorem onZones_flash (f : Nat → Zone → Zone) : (s.onZones f).flash = s.flash := rfl
@[simp] theorem onZone_dict (z : Nat) (f : Zone → Zone) : (s.onZone z f).dict = s.dict := rfl
@[simp] theorem onZones_dict (f : Nat → Zone → Zone) : (s.onZones f).dict = s.dict := rfl
@[simp] theorem onZone_chk (z : Nat) (f : Zone → Zone) : (s.onZone z f).chk = s.chk := rfl
@[simp] theorem onZones_chk (f : Nat → Zone → Zone) : (s.onZones f).chk = s.chk := rfl
@[simp] theorem onZone_pwr (z : Nat) (f : Zone → Zone) : (s.onZone z f).pwr = s.pwr := rfl
@[simp] theorem onZones_pwr (f : Nat → Zone → Zone) : (s.onZones f).pwr = s.pwr := rfl
@[simp] theorem onZone_rally (z : Nat) (f : Zone → Zone) : (s.onZone z f).rally = s.rally := rfl
@[simp] theorem onZones_rally (f : Nat → Zone → Zone) : (s.onZones f).rally = s.rally := rfl
@[simp] theorem onZone_aux (z : Nat) (f : Zone → Zone) : (s.onZone z f).aux = s.aux := rfl
@[simp] theorem onZones_aux (f : Nat → Zone → Zone) : (s.onZones f).aux = s.aux := rfl
@[simp] theorem onZone_tap (z : Nat) (f : Zone → Zone) : (s.onZone z f).tap = s.tap := rfl
@[simp] theorem onZones_tap (f : Nat → Zone → Zone) : (s.onZones f).tap = s.tap := rfl
@[simp] theorem onZone_free (z : Nat) (f : Zone → Zone) : (s.onZone z f).free = s.free := rfl
@[simp] theorem onZones_free (f : Nat → Zone → Zone) : (s.onZones f).free = s.free := rfl
@[simp] theorem onZone_zones (z : Nat) (f : Zone → Zone) : (s.onZone z f).zones = s.zones.modify z f := rfl
@[simp] theorem onZones_zones (f : Nat → Zone → Zone) : (s.onZones f).zones = s.zones.mapIdx f := rfl

end Sys2Proof.Machine
end

