-- ==== Sys2Proof/Laws/Reports.lean ====
section
/-! SUPPORT. Everything that the report of an event or of a record can do, and everything that an answer can do: the frames
`Safety.reported` and `Safety.answered`, which later proofs cite in place of unfolding the operations. -/

namespace Sys2Proof.Machine

open Sys2Proof

/-! ### The frames -/

theorem reported_refl (s : State) : Safety.reported s s := rfl

theorem reported_trans {s u t : State} (h : Safety.reported s u) (k : Safety.reported u t) : Safety.reported s t :=
  k.trans (congrArg (fun x : State => { x with
    mgmt := { x.mgmt with
      latched := t.mgmt.latched, evSeq := t.mgmt.evSeq, evCounts := t.mgmt.evCounts, evLast := t.mgmt.evLast, lastSev := t.mgmt.lastSev,
      logQueue := t.mgmt.logQueue, logDropped := t.mgmt.logDropped, dropsToNote := t.mgmt.dropsToNote,
      reconstructed := t.mgmt.reconstructed }
    can := { x.can with evQueue := t.can.evQueue, evSince := t.can.evSince, evLost := t.can.evLost }
    vex := { x.vex with
      own := t.vex.own, evSince := t.vex.evSince, evDropped := t.vex.evDropped, canOnlyLost := t.vex.canOnlyLost }
    flt := { x.flt with
      faultN := t.flt.faultN, faultAcked := t.flt.faultAcked, counts := t.flt.counts, recent := t.flt.recent, storms := t.flt.storms }
    sup := { x.sup with
      capRunning := t.sup.capRunning, capState := t.sup.capState, capture := t.sup.capture, injecting := t.sup.injecting,
      injArmed := t.sup.injArmed, injU := t.sup.injU }
    free := t.free }) h)

theorem answered_refl (s : State) : Safety.answered s s := rfl

theorem answered_trans {s u t : State} (h : Safety.answered s u) (k : Safety.answered u t) : Safety.answered s t :=
  k.trans (congrArg (fun x : State => { x with
    can := { x.can with answered := t.can.answered, out := t.can.out, svcResp := t.can.svcResp }
    vex := { x.vex with own := t.vex.own, answers := t.vex.answers }
    rally := { x.rally with svcLast := t.rally.svcLast } }) h)

theorem told_of_reported {s t : State} (h : Safety.reported s t) : Safety.told s t := ⟨t, h, rfl⟩

theorem told_of_answered {s t : State} (h : Safety.answered s t) : Safety.told s t := ⟨s, rfl, h⟩

/-! ### Events and records -/

theorem queueLog_reported (s : State) (rcd : List Byte) : Safety.reported s (s.queueLog rcd) := by
  unfold State.queueLog State.onMgmt Safety.reported; dsimp only; split <;> rfl

theorem queueCanEvent_reported (s : State) (rcd : List Byte) : Safety.reported s (s.queueCanEvent rcd) := by
  unfold State.queueCanEvent State.onCan Safety.reported; dsimp only; split <;> rfl

theorem queueVxEvent_reported (s : State) (rcd : List Byte) : Safety.reported s (s.queueVxEvent rcd) := by
  unfold State.queueVxEvent State.onVex Safety.reported; dsimp only; split
  · rfl
  · split <;> rfl

theorem assertFault_reported (s : State) : Safety.reported s s.assertFault := rfl

theorem countEvent_reported (s : State) (r : Raise) : Safety.reported s (s.countEvent r) := rfl

theorem latchEvent_reported (s : State) (r : Raise) (rcd : List Byte) : Safety.reported s (s.latchEvent r rcd) := rfl

theorem routeEvent_reported (s : State) (rcd : List Byte) (sev route : Nat) : Safety.reported s (s.routeEvent rcd sev route) := by
  have step : ∀ (c : Bool) (u : State) (f : State → State), Safety.reported s u → (∀ v, Safety.reported v (f v)) →
      Safety.reported s (if c then f u else u) := by
    intro c u f h k; cases c
    · exact h
    · exact reported_trans h (k u)
  exact step _ _ (fun v => v.queueLog rcd) (step _ _ State.assertFault (step _ _ (fun v => v.queueVxEvent (sealed rcd))
    (step _ _ (fun v => v.queueCanEvent (sealed rcd))
    (step _ _ (fun v => v.onMgmt fun m => { m with reconstructed := false }) (reported_refl s) fun _ => rfl) fun v => queueCanEvent_reported v _)
    fun v => queueVxEvent_reported v _) assertFault_reported) fun v => queueLog_reported v rcd

theorem raiseRaw_reported (s : State) (r : Raise) : Safety.reported s (s.raiseRaw r) := by
  unfold State.raiseRaw
  split
  · exact countEvent_reported s r
  · exact reported_trans (reported_trans (countEvent_reported s r) (latchEvent_reported _ _ _)) (routeEvent_reported _ _ _ _)

theorem stopCapture_reported (s : State) : Safety.reported s s.stopCapture := by
  unfold State.stopCapture; split <;> rfl

theorem stopInjection_reported (s : State) (cause : Nat) : Safety.reported s (s.stopInjection cause) := by
  unfold State.stopInjection
  split
  · have h : ∀ u : State, Safety.reported u (u.onSup fun v => { v with injecting := false, injArmed := false, injU := 0 }) := fun _ => rfl
    exact reported_trans (reported_trans (stopCapture_reported s) (h _)) (raiseRaw_reported _ _)
  · exact reported_refl s

theorem raise_reported (s : State) (r : Raise) : Safety.reported s (s.raise r) := by
  unfold State.raise
  dsimp only
  split
  · exact reported_trans (raiseRaw_reported s r) (stopInjection_reported _ _)
  · exact raiseRaw_reported s r

theorem onMgmt_reconstructed (s : State) : Safety.reported s (s.onMgmt fun m => { m with reconstructed := false }) := rfl

theorem drawUnstated_reported (s : State) (n : Nat) : Safety.reported s (s.drawUnstated n).2 := rfl

theorem systemRecord_reported (s : State) : Safety.reported s s.systemRecord :=
  reported_trans (reported_trans (drawUnstated_reported s 32) (queueLog_reported _ _)) (onMgmt_reconstructed _)

theorem systemRecordWith_reported (s : State) (data : List Byte) : Safety.reported s (s.systemRecordWith data) :=
  reported_trans (queueLog_reported _ _) (onMgmt_reconstructed _)

theorem releaseRecord_reported (s : State) (ev : Nat) (data : List Byte) : Safety.reported s (s.releaseRecord ev data) := by
  unfold State.releaseRecord
  dsimp only
  split
  · exact reported_trans (queueLog_reported _ _) (onMgmt_reconstructed _)
  · exact reported_refl s

theorem judgeStorm_reported (s : State) (check : Nat) : Safety.reported s (s.judgeStorm check) := by
  have h1 : ∀ l, Safety.reported s (s.onFlt fun f => { f with recent := l }) := fun _ => rfl
  have h2 : ∀ (u : State) (k v : Nat), Safety.reported u (u.onFlt fun f => { f with storms := kvSet f.storms k v }) :=
    fun _ _ _ => rfl
  unfold State.judgeStorm
  dsimp only
  split_ifs
  · exact reported_trans (h1 _) (reported_trans (h2 _ _ _) (raise_reported _ _))
  · exact h1 _

theorem transientRecord_reported (s : State) (check : Nat) (data : List Byte) : Safety.reported s (s.transientRecord check data) := by
  unfold State.transientRecord
  split
  · exact reported_trans (queueLog_reported _ _) (onMgmt_reconstructed _)
  · exact reported_refl s

theorem transient_reported (s : State) (check : Nat) (data : List Byte) : Safety.reported s (s.transient check data) :=
  have h : Safety.reported s (s.onFlt fun f => { f with
      counts := f.counts.modify check (fun c => inc32 c 1), recent := f.recent ++ [(check, s.now)] }) := rfl
  reported_trans (reported_trans h (transientRecord_reported _ check data)) (judgeStorm_reported _ check)

theorem noteTransient_reported (s : State) (check : Nat) (data : List Byte) : Safety.reported s (s.noteTransient check data) :=
  reported_trans (u := s.onFlt fun f => { f with
    counts := f.counts.modify check (fun c => inc32 c 1), recent := f.recent ++ [(check, s.now)] }) rfl (transientRecord_reported _ _ _)

theorem judgeStormsSince_reported (s : State) (counts : List Nat) : Safety.reported s (s.judgeStormsSince counts) := by
  have h : ∀ (l : List Nat) (u : State), Safety.reported u
      (l.foldl (fun s c => if s.flt.counts.getD c 0 = counts.getD c 0 then s else s.judgeStorm c) u) := by
    intro l
    induction l with
    | nil => exact fun u => rfl
    | cons c l ih =>
      intro u
      refine reported_trans ?_ (ih _)
      dsimp only
      split
      · rfl
      · exact judgeStorm_reported u c
  exact h _ s

theorem rereadCopy_reported (s : State) (r : RecordId) (c : CopyId) : Safety.reported s (s.rereadCopy r c) :=
  reported_trans (drawUnstated_reported s 8) (noteTransient_reported _ _ _)

/-! ### Answers -/

theorem sendOwn_answered (s : State) (p : OwnPacket) : Safety.answered s (s.sendOwn p) := by
  unfold State.sendOwn State.queueOwn; split <;> rfl

theorem answerPacket_answered (s : State) (bro : Bool) (seq : Nat) (p : OwnPacket) : Safety.answered s (s.answerPacket bro seq p) :=
  have h : ∀ l, Safety.answered s (s.onVex fun v => { v with answers := l }) := fun _ => rfl
  answered_trans (h _) (sendOwn_answered _ p)

theorem nak_answered (s : State) (bro : Bool) (seq type code info : Nat) : Safety.answered s (s.nak bro seq type code info) :=
  answerPacket_answered _ _ _ _

theorem ack_answered (s : State) (needAck bro : Bool) (seq type code info : Nat) :
    Safety.answered s (s.ack needAck bro seq type code info) := by
  unfold State.ack; split
  · exact answerPacket_answered _ _ _ _
  · exact answered_refl s

theorem queueStatus_own (s : State) : s.queueStatus = { s with vex := { s.vex with own := s.queueStatus.vex.own } } := by
  unfold State.queueStatus; dsimp only; split <;> rfl

theorem sendCan_answered (s : State) (f : CanOut) : Safety.answered s (s.sendCan f) := by
  unfold State.sendCan; split <;> rfl

theorem answerSvc_answered (s : State) (seq type code : Nat) (data : List Byte) :
    Safety.answered s (s.answerSvc seq type code data) := by
  unfold State.answerSvc; split <;> rfl

theorem sendSvc_answered (s : State) (type code : Nat) (data : List Byte) : Safety.answered s (s.sendSvc type code data) :=
  answerSvc_answered _ _ _ _ _

theorem sendGrenz_answered (s : State) (r : Req) (op index sub flags : Nat) (data : List Byte) :
    Safety.answered s (s.sendGrenz r op index sub flags data) := by
  unfold State.sendGrenz
  split
  · exact sendCan_answered _ _
  · exact sendOwn_answered _ _
  · exact answerSvc_answered _ _ _ _ _

theorem answer_answered (s : State) (m : GrenzMsg) (op flags : Nat) (data : List Byte) :
    Safety.answered s (s.answer m op flags data) :=
  have h : ∀ l, Safety.answered s (s.onCan fun c => { c with answered := l }) := fun _ => rfl
  answered_trans (h _) (sendGrenz_answered _ _ _ _ _ _ _)

theorem reply_answered (s : State) (m : GrenzMsg) (data : List Byte) : Safety.answered s (s.reply m data) := answer_answered _ _ _ _ _

theorem refuse_answered (s : State) (m : GrenzMsg) (code info : Nat) : Safety.answered s (s.refuse m code info) :=
  answer_answered _ _ _ _ _

theorem busy_answered (s : State) (m : GrenzMsg) : Safety.answered s (s.busy m) := refuse_answered _ _ _ _

theorem sendError_answered (s : State) (r : Req) (index sub code info : Nat) :
    Safety.answered s (s.sendError r index sub code info) := sendGrenz_answered _ _ _ _ _ _ _

/-- A request that is not carried out changes its answer at most. -/
theorem serve_cases (s : State) (m : GrenzMsg) (body : State → State) :
    Safety.answered s (s.serve m body) ∨ Safety.taken s m ∧ s.serve m body = body s := by
  unfold State.serve
  cases hr : s.reaches m.req
  · exact .inl rfl
  cases hp : s.rally.phase == .handover
  · cases ha : s.storedAnswer m with
    | some a => exact .inl (sendGrenz_answered _ _ _ _ _ _ _)
    | none =>
      cases hi : s.inProgress m.req
      · cases ho : opAllowed m.req m.op
        · exact .inl (refuse_answered _ _ _ _)
        · cases hl : s.classLevelLow m
          · exact .inr ⟨⟨hr, by simpa using hp, ha, hi, ho, hl⟩, rfl⟩
          · exact .inl (refuse_answered _ _ _ _)
      · exact .inl (busy_answered _ _)
  · exact .inl (sendError_answered _ _ _ _ _ _)

/-! ### What both leave alone -/

/-- What neither a report nor an answer touches. -/
abbrev Untouched (s t : State) : Prop :=
  t.pending = s.pending ∧ t.tim = s.tim ∧ t.comp = s.comp ∧ t.surf = s.surf ∧ t.glare = s.glare ∧ t.sense = s.sense ∧
    t.zones = s.zones ∧ t.therm = s.therm ∧ t.flash = s.flash ∧ t.dict = s.dict ∧ t.chk = s.chk ∧ t.pwr = s.pwr ∧ t.aux = s.aux

theorem untouched_of_reported {s t : State} (h : Safety.reported s t) : Untouched s t := by
  unfold Safety.reported at h; rw [h]; exact ⟨rfl, rfl, rfl, rfl, rfl, rfl, rfl, rfl, rfl, rfl, rfl, rfl, rfl⟩

theorem untouched_of_answered {s t : State} (h : Safety.answered s t) : Untouched s t := by
  unfold Safety.answered at h; rw [h]; exact ⟨rfl, rfl, rfl, rfl, rfl, rfl, rfl, rfl, rfl, rfl, rfl, rfl, rfl⟩

theorem untouched_trans {s u t : State} (h : Untouched s u) (k : Untouched u t) : Untouched s t := by
  unfold Untouched at *; simp_all

theorem untouched_of_told {s t : State} (h : Safety.told s t) : Untouched s t := by
  obtain ⟨u, hu, ht⟩ := h
  exact untouched_trans (untouched_of_reported hu) (untouched_of_answered ht)

/-- The queue, ROLLBACK_COUNTER and the byte memories from one state to another: what every step invariant of the block rests on. -/
abbrev Keeps (s t : State) : Prop :=
  t.pending = s.pending ∧ (s.flash.rollback ≤ t.flash.rollback ∧ (s.flash.rollback ≤ 255 → t.flash.rollback ≤ 255)) ∧
    (Safety.memoriesWf s → Safety.memoriesWf t)

theorem keeps_refl (s : State) : Keeps s s := ⟨rfl, ⟨le_refl _, id⟩, id⟩

theorem keeps_trans {s u t : State} (h : Keeps s u) (k : Keeps u t) : Keeps s t :=
  ⟨k.1.trans h.1, ⟨h.2.1.1.trans k.2.1.1, fun x => k.2.1.2 (h.2.1.2 x)⟩, fun x => k.2.2 (h.2.2 x)⟩

theorem keeps_of_untouched {s t : State} (h : Untouched s t) : Keeps s t := by
  obtain ⟨hp, ht, -, hs, -, -, -, -, hf, -, hc, -, -⟩ := h
  refine ⟨hp, by rw [hf]; exact ⟨le_refl _, id⟩, fun w => ?_⟩
  rw [Safety.memoriesWf, ht, hs, hc]; exact w

end Sys2Proof.Machine
end

