-- ==== Sys2Proof/Laws/Shared.lean ====
section
/-! SUPPORT. What the shared operations over zones, the rail, access levels, domains, the output and the test port can do, said once for each. -/

namespace Sys2Proof.Machine

open Sys2Proof

variable (s : State)

/-! ### Zones (R33 to R35): nothing but zones changes -/

theorem openZones_zones (zs : List Nat) (c : OpenCause) (im : Bool) :
    s.openZones zs c im = { s with zones := (s.openZones zs c im).zones } := rfl

theorem openAll_zones (c : OpenCause) (im : Bool) : s.openAll c im = { s with zones := (s.openAll c im).zones } := rfl

theorem endCause_zones (i : Nat) (c : OpenCause) : s.endCause i c = { s with zones := (s.endCause i c).zones } := rfl

theorem endModuleWide_zones : s.endModuleWide = { s with zones := s.endModuleWide.zones } := rfl

theorem applyBlankMask_zones : s.applyBlankMask = { s with zones := s.applyBlankMask.zones } := rfl

theorem grantClosings_zones : s.grantClosings = { s with zones := s.grantClosings.zones } := rfl

/-- An IMMEDIATE opening of every zone leaves no switch closed (R33). -/
theorem openAll_allOpen (c : OpenCause) : Safety.allOpen (s.openAll c true) := by
  intro z hz
  simp only [State.openAll, State.onZones, List.mem_mapIdx] at hz
  obtain ⟨i, h, rfl⟩ := hz
  rfl

/-- An IMMEDIATE opening opens the zones it names, and leaves the others as they are (R33). -/
theorem openZones_zone (zs : List Nat) (c : OpenCause) {i : Nat} (hi : i < s.zones.length) :
    (s.openZones zs c true).zone i = if zs.contains i then ((s.zone i).addCause c).openNow s.now else s.zone i := by
  simp [State.openZones, State.onZones, State.zone, List.getD, hi]

theorem countAway_zones : s.countAway = { s with zones := s.countAway.zones } := rfl

theorem regainSensing_zones : s.regainSensing = { s with zones := s.regainSensing.zones } := by
  unfold State.regainSensing; split <;> rfl

/-- The end of the following-error runs leaves ACQUIRE's timers at zero and reports what it counts (R174, R175). -/
theorem endRuns_reported : Safety.reported (s.onZones fun _ z => z.endRun) s.endRuns := by
  have h : ∀ (l : List Zone) (u : State), Safety.reported u (l.foldl (fun s z => s.noteRun z.feFirst z.rho) u) := by
    intro l
    induction l with
    | nil => exact fun u => rfl
    | cons z l ih => exact fun u => reported_trans (noteTransient_reported u _ _) (ih _)
  exact h _ _

/-! ### The gain periods (R177, R179): nothing but the supply changes -/

theorem judgeOverrun_sup (due incomplete : Bool) (start : Nat) :
    s.judgeOverrun due incomplete start = { s with sup := (s.judgeOverrun due incomplete start).sup } := by
  unfold State.judgeOverrun State.countOverrun; dsimp only; split <;> rfl

theorem dropInjected_sup : s.dropInjected = { s with sup := s.dropInjected.sup } := by
  unfold State.dropInjected; split
  · split <;> rfl
  · rfl

/-! ### The rail (R155) -/

/-- Following-error state of the rail may change, and a report may follow: what the end of an excursion can do. -/
abbrev ExcursionEnded (s t : State) : Prop := Safety.reported { s with sup := { s.sup with
  feRunning := t.sup.feRunning, feGood := t.sup.feGood, fePeak := t.sup.fePeak, feTransients := t.sup.feTransients } } t

theorem cutExcursion_parts : ExcursionEnded s s.cutExcursion := by
  unfold State.cutExcursion ExcursionEnded
  split
  · have h : ∀ t : State, Safety.reported (s.onSup fun u => { u with
        feRunning := false, feGood := 0, fePeak := 0, feTransients := inc32 u.feTransients 1 }) t → ExcursionEnded s t :=
      fun t h => by
        have e : t.sup.feRunning = false ∧ t.sup.feGood = 0 ∧ t.sup.fePeak = 0 ∧
            t.sup.feTransients = inc32 s.sup.feTransients 1 := by
          unfold Safety.reported at h; rw [h]; exact ⟨rfl, rfl, rfl, rfl⟩
        unfold ExcursionEnded; rw [e.1, e.2.1, e.2.2.1, e.2.2.2]; exact h
    exact h _ (transient_reported _ _ _)
  · exact reported_refl _

/-- VLED goes off (R155): its phases and its setpoint, the end of an excursion, and its report. -/
theorem vledOff_parts : Safety.reported { s with sup := { s.sup.off with feTransients := s.vledOff.sup.feTransients } } s.vledOff := by
  have h := cutExcursion_parts s
  unfold ExcursionEnded Safety.reported at h
  exact congrArg (fun x : State => x.onSup Supply.off) h

theorem vledOff_off : s.vledOff.sup.vledOn = false ∧ ∀ p ∈ s.vledOff.sup.phases, p.on = false := by
  refine ⟨rfl, fun p hp => ?_⟩
  simp only [State.vledOff, State.onSup, Supply.off, List.mem_map] at hp
  obtain ⟨q, -, rfl⟩ := hp
  rfl

theorem cutExcursion_zones : s.cutExcursion.zones = s.zones := by
  have h := cutExcursion_parts s
  unfold ExcursionEnded Safety.reported at h; rw [h]

/-- Darkness opens every zone switch (R155, R206), and otherwise does what VLED's going off does. -/
theorem goDark_zones (c : OpenCause) : (s.goDark c).zones = (s.openAll c true).zones := cutExcursion_zones _

/-! ### Access levels (R304 to R306) -/

theorem onAccess_mgmt (v : Transport) (f : Access → Access) : s.onAccess v f = { s with mgmt := (s.onAccess v f).mgmt } := by
  cases v <;> rfl

/-- The end of a session sets its transport to USER and otherwise reports at most (R306). -/
theorem endSession_parts (v : Transport) :
    Safety.reported (s.onAccess v fun a => { a with level := .user }) (s.endSession v) := by
  unfold State.endSession
  dsimp only
  split
  · exact stopInjection_reported _ _
  · exact reported_refl _

theorem grantLevel_mgmt (v : Transport) (level : Nat) : s.grantLevel v level = { s with mgmt := (s.grantLevel v level).mgmt } := by
  cases v <;> rfl

theorem countMismatch_mgmt (v : Transport) : s.countMismatch v = { s with mgmt := (s.countMismatch v).mgmt } := by
  unfold State.countMismatch; dsimp only; split <;> cases v <;> rfl

theorem voidChallenge_mgmt (v : Transport) : s.voidChallenge v = { s with mgmt := (s.voidChallenge v).mgmt } := by
  cases v <;> rfl

/-! ### What they keep -/

theorem openZones_keeps (zs : List Nat) (c : OpenCause) (im : Bool) : Keeps s (s.openZones zs c im) := ⟨rfl, ⟨le_refl _, id⟩, id⟩

theorem vledOff_keeps : Keeps s s.vledOff :=
  keeps_trans (u := { s with sup := { s.sup.off with feTransients := s.vledOff.sup.feTransients } }) ⟨rfl, ⟨le_refl _, id⟩, id⟩
    (keeps_of_untouched (untouched_of_reported (vledOff_parts s)))

theorem goDark_keeps (c : OpenCause) : Keeps s (s.goDark c) :=
  keeps_trans (u := s.openAll c true) ⟨rfl, ⟨le_refl _, id⟩, id⟩ (vledOff_keeps _)

theorem raise_keeps (r : Raise) : Keeps s (s.raise r) := keeps_of_untouched (untouched_of_reported (raise_reported s r))

theorem transient_keeps (check : Nat) (data : List Byte) : Keeps s (s.transient check data) :=
  keeps_of_untouched (untouched_of_reported (transient_reported s check data))

theorem reply_keeps (m : GrenzMsg) (data : List Byte) : Keeps s (s.reply m data) :=
  keeps_of_untouched (untouched_of_answered (reply_answered s m data))

theorem refuse_keeps (m : GrenzMsg) (code info : Nat) : Keeps s (s.refuse m code info) :=
  keeps_of_untouched (untouched_of_answered (refuse_answered s m code info))

theorem endSession_keeps (v : Transport) : Keeps s (s.endSession v) := by
  refine keeps_trans ?_ (keeps_of_untouched (untouched_of_reported (endSession_parts s v)))
  cases v <;> exact ⟨rfl, ⟨le_refl _, id⟩, id⟩

/-! ### Domains, the output and the test port: what each of them touches -/

theorem sequenced_pwr (d : Option Domain) (steps : List PowerStep) :
    s.sequenced d steps = { s with pwr := (s.sequenced d steps).pwr } := rfl

theorem forwardPacket_vex (b : List Byte) (ends : PacketEnd) :
    s.forwardPacket b ends = { s with vex := (s.forwardPacket b ends).vex } := rfl

theorem txAnnounce_vex (level : Nat) (l : LaneState) : s.txAnnounce level l = { s with vex := (s.txAnnounce level l).vex } := rfl

theorem forwardCredits_vex (sets : List (Nat × Nat)) : s.forwardCredits sets = { s with vex := (s.forwardCredits sets).vex } := by
  unfold State.forwardCredits; split <;> rfl

theorem waitFor_surf (w : Waiting) : s.waitFor w = { s with surf := (s.waitFor w).surf } := rfl

theorem noteTransient_keeps (check : Nat) (data : List Byte) : Keeps s (s.noteTransient check data) :=
  keeps_of_untouched (untouched_of_reported (noteTransient_reported s check data))

theorem rereadCopy_keeps (r : RecordId) (c : CopyId) : Keeps s (s.rereadCopy r c) :=
  keeps_of_untouched (untouched_of_reported (rereadCopy_reported s r c))

/-- The character errors that wait change the lanes' counts and wait no more (R239). -/
theorem takeCharErrors_vex : s.takeCharErrors = { s with vex := { s.vex with lanes := s.takeCharErrors.vex.lanes, charErrors := [] } } := by
  have h : ∀ (l : List (Fin 4)) (u : State), l.foldl (fun s x => s.countCharError x.val) u =
      { u with vex := { u.vex with lanes := (l.foldl (fun s x => s.countCharError x.val) u).vex.lanes } } := by
    intro l
    induction l with
    | nil => exact fun u => rfl
    | cons x l ih => intro u; rw [List.foldl_cons, ih]; rfl
  unfold State.takeCharErrors
  dsimp only
  split
  · rw [h]; rfl
  · rfl

theorem runTap_tap : ∃ n, s.runTap = { s with tap := s.runTap.tap, free := s.free + n } := by
  have h : ∀ (l : List TapEdge) (u : State), ∃ n,
      l.foldl (fun s e => { s with tap := s.tap.edge s.free e, free := s.free + 1 }) u =
        { u with
          tap := (l.foldl (fun s e => { s with tap := s.tap.edge s.free e, free := s.free + 1 }) u).tap, free := u.free + n } := by
    intro l
    induction l with
    | nil => exact fun u => ⟨0, rfl⟩
    | cons e l ih =>
      intro u
      obtain ⟨n, hn⟩ := ih { u with tap := u.tap.edge u.free e, free := u.free + 1 }
      refine ⟨1 + n, ?_⟩
      rw [List.foldl_cons, hn]
      simp [Nat.add_assoc]
  exact h _ _

end Sys2Proof.Machine
end

