-- ==== Sys2Proof/WellFormed.lean ====
section
/-! DEFINITION. Well-formed commands: every operand lies in the range that its field of the spec can hold. -/

namespace Sys2Proof

/-- A Grenz request names a class that a host or a service tool sends requests in (Table 14-2), and a TOKEN of one byte. -/
def Req.wellFormed (r : Req) : Bool :=
  decide (r.token < 256) && (decide (r.via ≠ .can) || [2, 3, 4, 5, 10, 13].contains r.cls)

/-- A dictionary address (R307). -/
def objAddressOk (index sub : Nat) : Bool := decide (index < 65536) && decide (sub < 256)

/-- A packet has a header of 16 bytes, a payload of up to 4,096 bytes and a packet CRC of 32 bits (R247). -/
def VxPacket.wellFormed (p : VxPacket) : Bool :=
  p.header.length == 16 && decide (p.payload.length ≤ 4096) && decide (p.crc < 2 ^ 32)

/-- A CAN FD frame holds up to 64 bytes under an identifier of 11 bits, or of 29 where it is extended (R284, R301). -/
def CanFrame.wellFormed (f : CanFrame) : Bool :=
  decide (f.data.length ≤ 64) && decide (f.id < if f.extended then 2 ^ 29 else 2048)

/-- An SVC frame holds up to 1,038 bytes between START and FCRC (Table 20-1). -/
def SvcFrame.wellFormed (f : SvcFrame) : Bool := decide (f.body.length ≤ 1038) && decide (f.fcrc < 2 ^ 32) && decide (f.start.length ≤ 2)

/-- Codes read by the guard checker are those of pixels of the array (R5, R128). -/
def misreadsOk (m : Misreads) : Bool := m.all fun e => decide (e.1 < 2048) && decide (e.2.1 < 512) && decide (e.2.2 < 4096)

/-- Readings given for single items name an item below `n`. -/
def Readings.wellFormed {α : Type} (r : Readings α) (n : Nat) : Bool := r.exc.all fun e => decide (e.1 < n)

/-- A scalar write fits `n` bytes. -/
def fits (n v : Nat) : Bool := decide (v < 256 ^ n)

/-- Whether every operand of a command lies in its range. -/
def Instr.wellFormed (i : Instr) : Bool :=
  match i with
  | .powerOnReset _ | .brownOut _ | .resetN | .watchdogExpiry | .watchdogService | .lockstepDifference => true
  | .resetRelease _ | .bootComplete _ _ _ | .resetNRelease _ => true
  | .overvoltageEnter | .overvoltageLeave | .globalCycleBoundary | .rowSlotStart => true
  | .zoneCycleBegin _ ua => decide (0 ≤ ua)
  | .commit p | .surfWrite p | .surfRead p | .beamLine p | .paramReq p | .enum p _ | .hostNak p | .unknownTypePacket p => p.wellFormed
  | .commitBind | .monitorCopyDone | .compositionWatchdog _ => true
  | .statisticsPassEnd _ | .rowComplete _ => true
  | .halfLockDivergence field left right => decide (field < 65536) && decide (left < 2 ^ 32) && decide (right < 2 ^ 32)
  | .guardPassDone m | .guardRereadDone m => misreadsOk m
  | .senseProbeDone r => r.wellFormed 16384
  | .senseResultsDelivered adcRef bins => adcRef.wellFormed 512 && bins.wellFormed 16384
  | .reflexProcessingDone | .reflexHoldExpiry _ => true
  | .vledSample v phases => decide (v < 65536) && phases.length == 6
  | .senseFeedForward _ | .vledFeTimeout | .softStartDone _ => true
  | .gainPeriod zonesDone _ => decide (zonesDone ≤ 512)
  | .zoneFeTimeout _ | .gzStorePeriod => true
  | .measuredPowerCheck v => decide (v < 65536)
  | .tempSample _ t10 => decide (-32768 ≤ t10) && decide (t10 < 32768)
  | .thermZoneLookTimeout _ | .shutdownRecordWrite => true
  | .hostHeartbeat addr seq => decide (addr < 64) && fits 1 seq
  | .hostLossTimeout _ | .limpNLowTimeout | .limpNHighTimeout _ | .lightOnTimeout => true
  | .fbRenderPeriod | .renderSumsDone _ | .renderCodesDone => true
  | .rxLocked | .alignPoll _ _ => true
  | .deskewDone arrival => decide (arrival.length ≤ 4)
  | .laneMapAccepted info => decide (info.length ≤ 4)
  | .bringupRetry _ _ | .linkLoss _ _ | .vxLossTimeout | .txIdleTimeout _ | .announceReceived _ | .wakeBurstDetected => true
  | .ownPacketQueued | .txRestart => true
  | .packetHeader h _ credits _ => h.length == 16 && credits.all fun c => decide (c.1 < 64) && decide (c.2 < 65536)
  | .outputPacketBoundary _ _ b => decide (b ≤ 8192)
  | .creditSetTimer | .statusPeriod => true
  | .scanDone _ _ | .surfaceVerifyDone _ | .scrubCalPeriod | .scrubSurfPeriod | .flashRecordWrite _ _ _ => true
  | .crcsStart r | .crcsAbort r | .surfCmdClose r _ | .surfCmdClear r _ => r.wellFormed
  | .surfGeometryWrite r _ sub data => r.wellFormed && decide (1 ≤ sub) && decide (sub ≤ 7) && decide (data.length ≤ 56)
  | .read r index sub => r.wellFormed && objAddressOk index sub
  | .write r index sub data => r.wellFormed && objAddressOk index sub && decide (data.length ≤ 56)
  | .blockReadInit r index sub offset length blksize =>
    r.wellFormed && objAddressOk index sub && fits 4 offset && fits 4 length && fits 1 blksize
  | .blockWriteInit r index sub offset total => r.wellFormed && objAddressOk index sub && fits 4 offset && fits 4 total
  | .blockSeg r seq _ data =>
    r.wellFormed && decide (0 < data.length) &&
      (if r.via = .vexlink then decide (data.length ≤ 4088) && fits 4 seq else decide (data.length ≤ 56) && decide (seq < 64))
  | .blockCrc r block crc => r.wellFormed && fits 1 block && fits 2 crc
  | .blockAck r block result blksize _ => r.wellFormed && fits 1 block && decide (result < 3) && fits 1 blksize
  | .abort r code => r.wellFormed && fits 1 code
  | .blockTimeout => true
  | .requestTimeLimit r | .lock r => r.wellFormed
  | .unlockReq r level => r.wellFormed && fits 1 level
  | .unlockResp r level response => r.wellFormed && fits 1 level && response.length == 16
  | .unlockTimeout _ | .accessIdleTimeout _ => true
  | .sync group tag => decide (group < 64) && fits 4 tag
  | .heartbeat _ | .eventFrameTimer | .canBusOff | .busOffRecovered | .canAddrApply => true
  | .canCmdRecover r => r.wellFormed
  | .strangerFrame f | .malformedFrame f => f.wellFormed
  | .addrClash id => decide (id < 960)
  | .svcGrenz f | .imgBegin f | .imgData f _ | .imgEnd f _ _ | .imgAbort f => f.wellFormed
  | .svcTransferSilence | .svcIdleDiscard => true
  | .stateRequestPark r | .stateRequestStandby r | .stateRequestReady r | .stateRequestLit r | .stateRequestService r => r.wellFormed
  | .stateTransitionDone | .persistCommitDue | .dictionaryResetAssert => true
  | .persistStore r | .restoreDefaults r | .resetCmd r | .capCmdStart r => r.wellFormed
  | .injTarget r v => r.wellFormed && fits 1 v
  | .updateActivate r | .updateActivateCold r | .updateDiscard r => r.wellFormed
  | .bankLoadDone _ | .handoverResume _ | .rallyRevert _ | .probationEnd => true
  | .eventClear r v => r.wellFormed && fits 1 v
  | .logClear r | .faultAck r | .logRecords r => r.wellFormed
  | .zoneFaultClear r zone => r.wellFormed && fits 2 zone
  | .compatEnable r v | .ph16kMode r v | .auxEnable r v | .reflexEnable r v | .gainSource r v => r.wellFormed && fits 1 v
  | .senseIntervalCyc r v => r.wellFormed && fits 2 v
  | .ph16kMap r offset data | .zoneBlankMask r offset data => r.wellFormed && fits 4 offset && decide (0 < data.length)
  | .commitStage r data => r.wellFormed && decide (data.length ≤ 836)
  | .hostAbsentReadyTimeout | .parkIdleTimeout | .sleepGo _ _ | .wakeSource _ _ | .wakeAlarm | .parkResume _ => true
  | .domainIdleTimeout _ | .logWrite => true
  | .auxFrameStart | .auxLineSlot _ _ => true
  | .auxShiftDone _ | .auxBlankRise | .auxLatch => true
  | .supervisorLimpAttempt | .campionImageLoadDone _ | .handoverQuiesce | .coldActivationResume _ | .slowCrystalChangeover => true
  | .vinDeratingChange v => decide (v < 65536)
  | .wakeRelockDone _ => true

end Sys2Proof
end

