-- ==== Sys2Proof/Tests/Slice0.lean ====
section
/-! SUPPORT. Tests: an ill-formed term for each check of WellFormed, witnesses that meet the hypotheses of the statements, and small
tests of single commands against values of the spec. -/

namespace Sys2Proof.Tests

set_option maxRecDepth 20000
set_option Elab.async false

open Sys2Proof Sys2Proof.Machine

/-! ### Small states -/

/-- Firmware runs in a device state with every domain powered. -/
def on (d : DevState) : State :=
  { State.reset with pwr := { State.reset.pwr with
      life := .running, dev := d, held := [], link := true, comp := true, scan := true, emit := true, aux := true } }

/-- A CAN request of class 2. -/
def can2 : Req := ⟨.can, 2, 7⟩

/-- An SVC request. -/
def svcReq : Req := ⟨.svc, 0, 7⟩

/-- A state with the level of every transport raised. -/
def raisedTo (s : State) (l : Level) : State :=
  { s with mgmt := { s.mgmt with
      can := { s.mgmt.can with level := l }, vexlink := { s.mgmt.vexlink with level := l }, svc := { s.mgmt.svc with level := l } } }

/-- A module without defects, with its phases healthy and no zone DEGRADED, meets no criterion of FAILED. -/
theorem no_failed_bits (s : State)
    (h : s.defects = [] ∧ (s.zones.filter fun z => z.degraded).length ≤ 16 ∧ 2 < s.nOk ∧ s.sup.feSecond = false) :
    s.healthBits.all (fun b => decide (6 ≤ b)) = true := by
  obtain ⟨hd, hz, hn, hf⟩ := h
  rw [List.all_eq_true]
  intro b hb
  simp only [State.healthBits, hd, List.mem_map, List.mem_filter] at hb
  obtain ⟨c, ⟨hc, ht⟩, rfl⟩ := hb
  simp only [List.mem_cons, List.not_mem_nil, or_false] at hc
  rcases hc with rfl | rfl | rfl | rfl | rfl | rfl | rfl | rfl | rfl | rfl | rfl | rfl | rfl | rfl | rfl | rfl <;>
    first | rfl | (exfalso; simp [blocksWith, hf] at ht; done) | (exfalso; simp at ht; omega)
/-! ### Witnesses: the block as a machine, reset and boot -/

theorem witness_StepRunsFrontOrTicks : ∃ (c : Instr) (rest : List Instr) (s : State), s.pending = c :: rest :=
  ⟨.heartbeat [], [.brownOut false], { State.reset with pending := [.heartbeat [], .brownOut false] }, rfl⟩

theorem witness_StepRunsFrontOrTicks_idle : State.reset.pending = [] ∧ State.reset.tap.edges = [] := ⟨rfl, rfl⟩

theorem witness_RollbackNeverFalls : Safety.rollbackWithin 0 State.reset ∧ ∃ t, step State.reset = .next t := ⟨by decide +kernel, _, rfl⟩

theorem witness_RollbackNeverFalls_top :
    Safety.rollbackWithin 255 { State.reset with flash := { State.reset.flash with rollback := 255 } } := by decide +kernel

theorem witness_StepKeepsMemoriesCanonical : Safety.memoriesWf State.reset ∧ ∃ t, step State.reset = .next t := ⟨by decide +kernel, _, rfl⟩

theorem witness_StepKeepsMemoriesCanonical_listed :
    Safety.memoriesWf { State.reset with surf := { State.reset.surf with mem := [(0, 1), (12582911, 2)] } } := by decide +kernel

theorem witness_ValuesReadBack : memWf [(3, 7), (5, 1)] ∧ 16777216 ≤ 16777216 := by decide +kernel

theorem witness_HeaderCheckSkipsHops : (List.replicate 16 (0 : Byte)).length = 16 := by decide +kernel

theorem witness_PhaseSlotsAreSpread : 15 < 16 ∧ 511 < 512 ∧ 479 < 480 := by decide +kernel

theorem witness_ResetsDarkenTheModule : (Instr.resetN, ResetCause.resetN) ∈
    [(Instr.powerOnReset true, ResetCause.por), (Instr.brownOut true, ResetCause.brownOut), (Instr.resetN, ResetCause.resetN)] := by
  decide +kernel

/-- A module held in reset by two sources. -/
def held : State := { State.reset with pwr := { State.reset.pwr with life := .inReset, held := [.brownOut, .resetN] } }

theorem witness_ResetIsReleasedAndBoots_waits : held.pwr.life = .inReset ∧ held.pwr.held.all (fun x => x != ResetCause.resetN) = false ∧
    held.pwr.held.all (fun x => x == ResetCause.resetN) = false := by decide +kernel

theorem witness_ResetIsReleasedAndBoots_gone : State.reset.pwr.held.all (fun x => x != ResetCause.resetN) = true ∧
    ({ held with pwr := { held.pwr with held := [.resetN] } }).pwr.held.all (fun x => x == ResetCause.resetN) = true := by
  decide +kernel

theorem witness_ResetIsReleasedAndBoots_boot : State.reset.pwr.life = .booting ∧
    (∃ b failed, ({ State.reset with rally := { State.reset.rally with slotA := { State.reset.rally.slotA with state := .active } } }).bootBank {} = some (b, failed)) ∧
    Safety.bootsHealthy State.reset := by
  refine ⟨rfl, ⟨false, none, by decide +kernel⟩, rfl, by decide +kernel, by decide +kernel, [], rfl, by decide⟩

/-! ### Witnesses: the watchdog and RESET_CMD -/

/-- STANDBY with a watchdog service at a time, and a TSTAMP. -/
def serviced (last : Option Nat) (now : Nat) : State :=
  { on .standby with mgmt := { (on .standby).mgmt with wdLast := last }, pwr := { (on .standby).pwr with tstamp := now, releasedAt := 0 } }

theorem witness_FirmwareResetsTheModule_inside :
    (serviced (some 100) 2100).yarrowRuns = true ∧ 100 + 2000 ≤ (serviced (some 100) 2100).pwr.tstamp ∧
    (serviced (some 100) 20100).pwr.tstamp ≤ 100 + 20000 ∧ (serviced none 60000).mgmt.wdLast = none ∧
    (serviced none 60000).pwr.tstamp ≤ (serviced none 60000).pwr.releasedAt + 60000 ∧
    ({ serviced none 0 with mgmt := { (serviced none 0).mgmt with wdHeld := true } }).yarrowRuns = true := by decide +kernel

theorem witness_FirmwareResetsTheModule_outside :
    (serviced (some 100) 2099).rally.phase ≠ .handover ∧ (serviced (some 100) 2099).rally.phase ≠ .probation ∧
    (serviced (some 100) 2099).mgmt.wdHeld = false ∧ (serviced (some 100) 2099).pwr.tstamp < 100 + 2000 ∧
    100 + 20000 < (serviced (some 100) 20101).pwr.tstamp ∧
    (serviced none 60001).pwr.releasedAt + 60000 < (serviced none 60001).pwr.tstamp := by decide +kernel

/-- STANDBY in a phase of Rally, entered by a whole-module reset or not. -/
def rallying (p : RallyPhase) (coldReset : Bool) : State :=
  { on .standby with rally := { Rally.reset with phase := p, coldReset := coldReset } }

theorem witness_FirmwareResetsTheModule_crash : (rallying .handover false).yarrowRuns = true ∧ (rallying .handover false).rally.phase = .handover ∧
    (rallying .probation false).yarrowRuns = true ∧ (rallying .probation false).rally.coldReset = false ∧
    (rallying .probation true).rally.coldReset = true ∧ (rallying .probation true).pwr.held.contains .rallyRevert = false := by decide +kernel

theorem witness_FirmwareResetsTheModule_resetCmd :
    Safety.accepts (raisedTo (on .standby) .service) (Safety.order can2 K.resetCmd 1 1) ∧ (on .standby).dict.dirty = [] := by
  unfold Safety.accepts Safety.taken; decide +kernel

/-- A reset is due. -/
def dueReset (dirty : List Nat) (committing : Bool) : State :=
  { on .standby with
    pwr := { (on .standby).pwr with resetDue := true }, dict := { Dict.reset with dirty := dirty, committing := committing } }

theorem witness_FirmwareResetsTheModule_assert :
    (on .standby).pwr.resetDue = false ∧ (dueReset [] true).dict.committing = true ∧ (dueReset [K.canAddr] false).pwr.resetDue = true ∧
    (dueReset [K.canAddr] false).dict.dirty ≠ [] ∧ (dueReset [] false).dict.dirty = [] ∧ (dueReset [] false).pwr.life = .running := by
  decide +kernel

/-! ### Witnesses: device states, PARK and wake -/

theorem witness_TransitionsStart_request :
    Safety.accepts (on .standby) (Safety.order can2 K.stateRequest 1 0) ∧ (on .standby).path .park = some [.park] ∧
    Safety.accepts (on .standby) (Safety.order can2 K.stateRequest 1 1) ∧
    Safety.accepts (on .lit) (Safety.order can2 K.stateRequest 1 2) ∧ (on .lit).path .ready = some [.ready] ∧
    Safety.accepts (on .ready) (Safety.order can2 K.stateRequest 1 3) ∧ (on .ready).path .lit = some [.lit] ∧
    Safety.accepts (raisedTo (on .ready) .service) (Safety.order can2 K.stateRequest 1 4) := by
  unfold Safety.accepts Safety.taken; decide +kernel

theorem witness_TransitionsStart_idle :
    (on .ready).up = true ∧ (on .ready).idleHost = true ∧ (on .standby).up = true ∧ (on .standby).idleHost = true ∧
    ({ on .ready with flt := { (on .ready).flt with hostPresent := true } }).idleHost = false ∧
    ({ on .standby with pwr := { (on .standby).pwr with onDemand := [.comp] } }).pwr.onDemand.contains .comp = true ∧
    (on .standby).pwr.trans = none ∧ (on .standby).pwr.onDemand.contains .link = false ∧
    ({ on .safeDark with therm := { Thermal.reset with ctrlOff := true } }).ctrlDark = true ∧ (on .lit).ctrlDark = false := by decide +kernel

/-- A transition with its steps. -/
def moving (d : DevState) (steps : List DevState) : State :=
  { on d with pwr := { (on d).pwr with trans := some ⟨steps⟩ } }

theorem witness_TransitionStepsComplete :
    ((on .ready).pwr.trans = none ∧ (moving .ready [.lit]).stepReady .lit = false ∧
      (moving .ready [.standby]).stepReady .standby = true ∧ (moving .ready [.standby]).rally.coldPending = false ∧
      (moving .ready [.standby]).flt.health ≠ 2) ∧ (moving .ready [.standby]).healthBits.all (fun b => decide (6 ≤ b)) = true :=
  ⟨by decide +kernel, no_failed_bits _ (by decide +kernel)⟩

theorem witness_TransitionStepsComplete_ready : (moving .lit [.ready]).pwr.trans = some ⟨[.ready]⟩ ∧ (moving .lit [.ready]).pwr.dev = .lit ∧
    Safety.allOpen (moving .lit [.ready]) ∧ (moving .lit [.ready]).pwr.limpLow = false ∧ (moving .lit [.ready]).pwr.lightOn = false := by
  decide +kernel

/-- STANDBY on its way to PARK with the image being written. -/
def parking (aDone : List Nat) (a : FlashCopy (Sealed ParkImage)) : State :=
  { moving .standby [.park] with flash := { Flash.reset with due := [6], aDone := aDone, parkImage := ⟨a, .erased⟩ } }

theorem witness_TransitionStepsComplete_park : (∀ l a, (parking l a).flashWorks = true ∧ 6 ∈ (parking l a).flash.due ∧
      (parking l a).pwr.trans = some ⟨[.park]⟩ ∧ (parking l a).flash.parkImage.a = a ∧ (parking l a).flash.aDone = l) ∧
    Safety.notFailed (parking [] .erased) :=
  ⟨fun _ _ => ⟨by rfl, List.mem_singleton.mpr rfl, rfl, rfl, rfl⟩, by decide +kernel, no_failed_bits _ (by decide +kernel)⟩

/-- Light is up: VLED is on and its soft start is over. -/
def rail (s : State) : State := { s with sup := { s.sup with vledOn := true, softStart := false, vset := 2900, vled := 2900 } }

theorem witness_TransitionStepsComplete_up :
    ((rail (moving .ready [.lit])).stepReady .lit = true ∧
      ({ moving .standby [.ready] with flt := { (on .standby).flt with hostPresent := true } }).pwr.limpLow = false ∧
      (moving .standby [.service]).pwr.trans = some ⟨[.service]⟩) ∧
    (rail (moving .ready [.lit])).healthBits.all (fun b => decide (6 ≤ b)) = true :=
  ⟨by decide +kernel, no_failed_bits _ (by decide +kernel)⟩

/-- SAFE_DARK on the way to LIT with LIMP_N low. -/
def limping : State :=
  { rail (moving .safeDark [.lit]) with pwr := { (moving .safeDark [.lit]).pwr with limpLow := true } }

theorem witness_TransitionStepsComplete_limp :
    (limping.pwr.trans = some ⟨[.lit]⟩ ∧ limping.stepReady .lit = true ∧ limping.pwr.limpLow = true ∧ limping.up = true ∧
      limping.rally.phase ≠ .handover ∧ limping.selectImage ≠ none ∧ limping.pwr.dev ≠ .fallback ∧ (on .lit).pwr.lightOn = false ∧
      (on .lit).flt.hostLostRaised = false) ∧ Safety.notFailed limping :=
  ⟨by decide +kernel, by decide +kernel, no_failed_bits _ (by decide +kernel)⟩

/-- No wake source. -/
def noWake : WakeBits := ⟨false, false, false, false, false, false⟩
/-- Every wake source. -/
def allWake : WakeBits := ⟨true, true, true, true, true, true⟩

/-- A sleep entry is scheduled. -/
def asleepSoon : State := { on .standby with pwr := { (on .standby).pwr with sleepDue := true } }

theorem witness_SleepAndWake_go :
    (on .standby).pwr.sleepDue = false ∧ asleepSoon.pwr.sleepDue = true ∧ asleepSoon.enabledWakes noWake = [] ∧
    asleepSoon.enabledWakes allWake ≠ [] := by decide +kernel

/-- A parked module. -/
def parked (refclk : Bool) : State :=
  { on .park with pwr := { (on .park).pwr with life := .parked, refclk := refclk, stopTstamp := 7200000000, slow := 1000003 } }

theorem witness_SleepAndWake_wake :
    (parked false).enabledWakes noWake = [] ∧ (parked false).enabledWakes allWake ≠ [] ∧ (parked false).pwr.life = .parked ∧
    (parked false).pwr.refclk = false ∧ (on .standby).alarmArmed = false ∧ (on .standby).parking = false ∧
    (on .standby).pwr.life = .running := by decide +kernel

theorem witness_SleepAndWake_source :
    let s := (on .standby).writePar K.wakeEnable 63
    s.enabledWakes allWake ≠ [] ∧ 5 ∉ s.enabledWakes { allWake with vexlink := false } ∧ s.enabledWakes { allWake with vexlink := false } ≠ [] ∧
    4 ∉ s.enabledWakes allWake ∧ s.parking = false ∧ (moving .standby [.park]).parking = true ∧
    (on .fallback).up = true ∧ (on .fallback).flt.fbCauses = [] ∧ (on .fallback).flt.hostPresent = false ∧
    (on .fallback).pwr.trans = none := by decide +kernel

theorem witness_SleepAndWake_parkedAlarm : ∃ s : State, s.alarmArmed = true ∧ s.pwr.life = .parked ∧ s.pwr.refclk = false :=
  ⟨((parked false).writePar K.wakeEnable 63).writePar K.wakeAlarm 10, by decide +kernel⟩

theorem witness_SleepAndWake_alarm :
    ∃ s : State, s.alarmArmed = true ∧ s.pwr.life = .running ∧ s.pwr.dev = .standby ∧ s.parking = false := 
  ⟨((on .standby).writePar K.wakeEnable 63).writePar K.wakeAlarm 10, by decide +kernel⟩

theorem witness_ParkResumeRestores : (parked true).pwr.life = .parked ∧ (parked true).pwr.refclk = true ∧
    (parked true).flash.defects.value = some [] ∧ (parked true).rally.coldPending = false ∧
    ({ parked true with rally := { Rally.reset with coldPending := true } }).rally.coldPending = true := by decide +kernel

/-- The module parked with an image in copy A. -/
def parkedWith (i : ParkImage) : State :=
  { parked true with flash := { Flash.reset with parkImage := ⟨.good (.of parkValue i), .erased⟩ } }

/-- A record whose seal is formed of it is good. -/
theorem sealed_value {α : Type} (value : α → Nat) (v : α) : (Dup.checked value ⟨.good (.of value v), .erased⟩).value = some v := by
  simp [Dup.checked, FlashCopy.checked, Dup.value, FlashCopy.content, Sealed.of]

/-- It is the newest good copy of its record. -/
theorem sealed_newest {α : Type} (value gen : α → Nat) (v : α) :
    (Dup.checked value ⟨.good (.of value v), .erased⟩).newest gen = some v := by
  simp [Dup.checked, FlashCopy.checked, Dup.newest, FlashCopy.content, Sealed.of]

theorem witness_ParkResumeRestores_image (i : ParkImage) : (parkedWith i).pwr.life = .parked ∧ (parkedWith i).pwr.refclk = true ∧
    (parkedWith i).flash.park.value = some i :=
  ⟨rfl, rfl, sealed_value parkValue i⟩

theorem witness_ParkResumeRestores_open : ∃ (vals : List (Nat × Nat)) (host fault : List Nat), (vals.map Prod.fst).Nodup ∧ vals ≠ [] ∧ 3 ∈ host ∧
    5 ∈ fault := ⟨[(K.canAddr, 3)], [3], [5], by decide, by decide, by decide, by decide⟩

theorem witness_ParkResumeRestores_sound : (parked true).sup.phases.length = 6 ∧ 2 < (parked true).nOk ∧
    ((parked true).zones.filter fun z => z.degraded).length ≤ 16 ∧
    ({ parked true with pwr := { (parked true).pwr with limpLow := true } }).pwr.dark = [] ∧ (parked true).flt.health ≠ 2 ∧
    (parked true).rally.phase ≠ .handover ∧ Safety.memoriesWf (parked true) ∧
    ((parked true).writePar K.parkRetain 1).flag K.parkRetain = true ∧ (parked true).flag K.parkRetain = false := by decide +kernel

theorem witness_ParkResumeRestores_cold :
    let s := { parked true with rally := { Rally.reset with coldPending := true, slotB := { Rally.reset.slotB with state := .staged } } }
    s.rally.coldPending = true ∧ (s.slotOfBank (!s.rally.bankB)).state = .staged := by decide +kernel

theorem witness_FirmwareResetsTheModule_resetDirty :
    Safety.accepts (raisedTo { on .standby with dict := { Dict.reset with dirty := [K.canAddr] } } .service) (Safety.order can2 K.resetCmd 1 1) := by
  unfold Safety.accepts Safety.taken; decide +kernel

theorem witness_ResetIsReleasedAndBoots_loader :
    State.reset.pwr.life = .booting ∧
    ({ State.reset with rally := { State.reset.rally with
        slotA := { State.reset.rally.slotA with state := .empty }, slotB := { State.reset.rally.slotB with state := .empty } } }).bootBank {} = none := by
  decide +kernel

/-! ### Witnesses: the slot grid, binding and composition -/

/-- A state with its timing record changed. -/
def tim (s : State) (f : Timing → Timing) : State := { s with tim := f s.tim }

/-- A frame of a stage with rows done. -/
def frame (stage : FrameStage) (rows : Nat) : Frame := { Frame.reset with stage := stage, rowsDone := rows }

theorem witness_RowSlotLoads :
    (on .lit).pwr.scan = true ∧ (on .lit).pwr.comp = true ∧ (on .lit).tim.stopped = false ∧ (on .lit).tim.lastLoaded = none ∧
    (on .lit).tim.slotZero = false ∧
    (on .lit).tim.work = none ∧ (on .lit).tim.loadRow = none ∧ (on .lit).tim.loadDone = false := by decide +kernel

/-- A row has been loaded, with APPLY_ROW and a value staged. -/
def rowLoaded (r : Nat) (staged : List Staged) : State :=
  tim (on .lit) fun t => { t with lastLoaded := some r, passMatchRow := 5, staged := staged }

theorem witness_RowSlotLoads_slots :
    (rowLoaded 5 []).tim.lastLoaded = some 5 ∧ (rowLoaded 5 []).tim.passMatchRow = 5 ∧ (rowLoaded 511 []).tim.lastLoaded = some 511 ∧
    (rowLoaded 512 []).tim.lastLoaded = some 512 ∧ (rowLoaded ((on .lit).par K.applyRow) []).tim.lastLoaded = some ((on .lit).par K.applyRow) ∧
    (on .lit).par K.applyRow < 512 := by decide +kernel

theorem witness_RowSlotLoads_pair :
    let v := fun (lo hi : Nat) => [(⟨K.frameMin, lo, 0⟩ : Staged), ⟨K.frameMax, hi, 0⟩]
    (stagedOr (v 20 30) K.frameMin 1 ≤ stagedOr (v 20 30) K.frameMax 1 ∧ (on .lit).margin ≤ stagedOr (v 20 30) K.frameMax 1) ∧
    stagedOr (v 20 10) K.frameMax 1 < stagedOr (v 20 10) K.frameMin 1 := by decide +kernel

theorem witness_RowSlotLoads_normal : ∃ (s : State) (f : Frame), s.tim.lastLoaded = some 7 ∧ s.pwr.scan = true ∧ s.tim.stopped = false ∧
    s.finishSlot.tim.work = some f ∧ s.finishSlot.tim.loadRow = some 8 ∧ 8 < f.rowsDone :=
  ⟨tim (on .lit) fun t => { t with work := some (frame .written 512), loadRow := some 8, lastLoaded := some 7 }, frame .written 512,
    by decide +kernel⟩

theorem witness_RowSlotLoads_begin : ∃ (s : State) (f : Frame), s.pwr.scan = true ∧ s.tim.lastLoaded = none ∧ s.tim.work = some f ∧
    s.tim.loadRow = none ∧ s.tim.loadDone = false ∧ 1 ≤ f.rowsDone ∧ (s.tim.reload = true → f.rowsDone = 512) :=
  ⟨tim (on .lit) fun t => { t with work := some (frame .writing 1) }, frame .writing 1, by decide +kernel⟩

theorem witness_RowSlotLoads_reload : ∃ (s : State) (f : Frame), s.pwr.scan = true ∧ s.tim.lastLoaded = none ∧ s.tim.work = some f ∧
    s.tim.loadRow = none ∧ s.tim.loadDone = false ∧ s.tim.reload = true ∧ f.rowsDone = 512 :=
  ⟨tim (on .lit) fun t => { t with work := some (frame .written 512), reload := true }, frame .written 512, by decide +kernel⟩

theorem witness_RowSlotLoads_row : ∃ (s : State) (f : Frame), s.tim.work = some f ∧ s.tim.loadRow = some 511 ∧ 511 < f.rowsDone :=
  ⟨tim (on .lit) fun t => { t with work := some (frame .written 512), loadRow := some 511 }, frame .written 512, by decide +kernel⟩

/-- A load pass stands before a row that is not written. -/
def shortOf (policy underruns : Nat) : State :=
  tim (on .lit) fun t => { t with work := some (frame .writing 5), loadRow := some 5, passPolicy := policy, underruns := underruns }

theorem witness_RowSlotLoads_underrun :
    (shortOf 0 0).tim.work = some (frame .writing 5) ∧ (shortOf 0 0).tim.loadRow = some 5 ∧ (frame .writing 5).rowsDone ≤ 5 ∧
    (shortOf 0 0).tim.passPolicy = 0 ∧ 8 ≤ (shortOf 1 8).tim.underruns ∧ (shortOf 1 7).tim.passPolicy ≠ 0 ∧
    (frame .writing 5).meetsRow 5 = false ∧ (shortOf 1 7).tim.underruns < 8 := by decide +kernel

/-- A loaded frame, and how long the displayed one has served. -/
def loaded (served : Nat) : State :=
  tim (on .lit) fun t => { t with work := some (frame .written 512), loadDone := true, served := served }

theorem witness_SwapAtBoundary :
    (loaded 19).pwr.life = .running ∧ (loaded 19).tim.loadDone = true ∧ (loaded 19).tim.lockOk = true ∧ (loaded 19).tim.reload = false ∧
    (loaded 19).earliest (frame .written 512) ≤ min ((loaded 19).tim.served + 1) 65535 ∧
    min ((loaded 18).tim.served + 1) 65535 < (loaded 18).earliest (frame .written 512) ∧ (on .lit).tim.work = none ∧
    (shortOf 0 0).tim.work = some (frame .writing 5) ∧ (shortOf 0 0).tim.loadRow = some 5 := by decide +kernel

theorem witness_ZoneSwitchesAtItsCycle : (on .lit).pwr.emit = true ∧ (on .lit).pwr.life = .running ∧ (on .lit).zones.length = 512 := by
  decide +kernel

theorem witness_ZoneSwitchesAtItsCycle_still :
    ({ on .lit with sense := { (on .lit).sense with inCycle := true } }).sense.inCycle = true ∧ (on .lit).sup.offDue = false ∧
    zoneOf 2047 511 < 512 ∧ ((on .lit).zone (zoneOf 2047 511)).closed = false ∧ transitionPeriods 100 50 0 = 50 ∧
    transitionPeriods 100 50 4096 = 100 ∧ transitionPeriods 10 300 256 = 54 := by decide +kernel

theorem witness_ZoneSwitchesAtItsCycle_off : ∃ s : State, s.pwr.emit = true ∧ s.pwr.life = .running ∧ s.zones.length = 512 ∧
    s.sup.offDue = true ∧ ∀ z ∈ s.zones, z.closed = false :=
  ⟨{ on .ready with sup := { (on .ready).sup with offDue := true } }, by decide +kernel⟩

/-- A commit that changes nothing, with a tag. -/
def plain (tag : Nat) (campion : Bool) : Commit := ⟨tag, [], [], [], campion, .sync, 0⟩

/-- Commits waiting, a pending one, and the work frame. -/
def binding (d : DevState) (pend : Option Commit) (work : Option Frame) : State :=
  tim (on d) fun t => { t with toBind := [plain 9 false], pend := pend, work := work }

theorem witness_CommitIsBound :
    (on .lit).tim.toBind = [] ∧ (binding .lit none none).tim.toBind = [plain 9 false] ∧ (binding .lit none none).mayCompose = true ∧
    (binding .lit none none).tim.work = none ∧ (binding .lit none none).tim.pend = none ∧ (plain 9 false).campion = false ∧
    (binding .lit (some (plain 8 false)) none).tim.pend ≠ none ∧ (binding .standby none none).mayCompose = false ∧
    (binding .standby none none).pwr.dev ≠ .fallback ∧ (binding .fallback none none).pwr.dev = .fallback := by decide +kernel

theorem witness_CommitIsBound_busy :
    (binding .lit none (some { frame .statistics 0 with commit := some (plain 7 true) })).tim.work ≠ none ∧
    (binding .lit none (some { frame .statistics 0 with commit := some (plain 7 true) })).maySupersede
      { frame .statistics 0 with commit := some (plain 7 true) } (plain 9 false) = false ∧
    (binding .lit none (some (frame .statistics 0))).maySupersede (frame .statistics 0) (plain 9 false) = true := by decide +kernel

/-- The displayed frame was limited with a budget above the one in force. -/
def limited (s : State) : State := tim s fun t => { t with disp := { t.disp with budget := 1000000000, regions := [none] } }

/-- A pending commit, a served count, the held triggers and the work frame. -/
def pended (d : DevState) (served : Nat) (pend : Option Commit) (held : List Trigger) (work : Option Frame) : State :=
  tim (on d) fun t => { t with served := served, pend := pend, held := held, work := work, loadDone := work.isSome }

theorem witness_RefreshesAreTriggered :
    let w := some (frame .written 512)
    (on .lit).pwr.comp = true ∧ (on .lit).pwr.life = .running ∧ (on .lit).tim.lastLoaded = none ∧ (on .lit).sense.inCycle = false ∧
    (on .lit).mayCompose = true ∧ (on .lit).tim.maxFired = false ∧
    (pended .lit 60000 none [] none).tim.maxCyc ≤ min ((pended .lit 60000 none [] none).tim.served + 1) 65535 + (on .lit).margin ∧
    min ((pended .lit 0 none [] none).tim.served + 1) 65535 + (on .lit).margin < (pended .lit 0 none [] none).tim.maxCyc ∧
    (pended .lit 0 (some (plain 9 false)) [] none).tim.pend = some (plain 9 false) ∧ (on .standby).mayCompose = false ∧
    (pended .lit 0 none [] w).tim.work = w ∧ (on .lit).budgetFell (on .lit).tim.disp = false ∧
    (limited (on .lit)).budgetFell (limited (on .lit)).tim.disp = true := by decide +kernel

theorem witness_RefreshesAreTriggered_slot : ∃ s : State, (s.glare.slots.getD 15 ReflexSlot.reset).used = true ∧ s.sensing = false ∧
    s.pwr.dev = .lit :=
  ⟨{ on .lit with
      glare := { (on .lit).glare with slots := List.replicate 16 { ReflexSlot.reset with used := true } }
      sense := { (on .lit).sense with n := 0 } }, by decide +kernel⟩

theorem witness_RefreshesAreTriggered_release :
    let s := { raisedTo (on .fallback) .service with flt := { (on .fallback).flt with hostPresent := true } }
    (Safety.accepts s (Safety.order can2 K.stateRequest 1 3) ∧ s.pwr.dev = .fallback ∧ (∀ c ∈ s.flt.fbCauses, c = .thermal) ∧
      Safety.nothingHeld s ∧ s.tim.work = none) ∧ Safety.notFailed s := by
  refine ⟨?_, by decide +kernel, no_failed_bits _ (by decide +kernel)⟩
  unfold Safety.accepts Safety.taken; decide +kernel

theorem witness_RefreshesAreTriggered_held :
    let s := pended .lit 60000 none [.reflex] (some (frame .written 512))
    (s.tim.stopped = false ∧ s.tim.loadDone = true ∧ s.tim.lockOk = true ∧ s.tim.reload = false ∧
      s.earliest (frame .written 512) ≤ min (s.tim.served + 1) 65535 ∧ s.margin < s.tim.maxCyc ∧ s.mayCompose = true ∧
      s.tim.held = [.reflex] ∧ lastingCurrents s.gridBoundary.countSense.currentVerdicts = []) ∧ Safety.notFailed s :=
  ⟨by decide +kernel, by decide +kernel, no_failed_bits _ (by decide +kernel)⟩

theorem witness_FramesAreComposed :
    (frame .statistics 0).kind ≠ .fallback ∧ (frame .statistics 0).tileLost ⟨[], none, []⟩ = none ∧ (on .lit).lookAgain (frame .writing 0) 0 = [] ∧
    (frame .writing 0).tileMisread ⟨[], none, []⟩ = none ∧ (on .lit).intensityLasting (frame .writing 0) ⟨[], none, []⟩ 0 = [] ∧
    (frame .writing 511).rowsDone = 511 ∧ (on .lit).lookAgain (frame .writing 511) 511 = [] ∧
    (tim (on .lit) fun t => { t with work := some (frame .writing 511) }).tim.work = some (frame .writing 511) := by decide +kernel

/-- A frame with a drawn PTC layer, and one INTENSITY window of row 0 that mismatched at its first look. -/
def tiled : Frame :=
  { frame .writing 0 with
    layers := [⟨true, wholeBind 16 8 65536 65536, 0, true, 16, 8, 0, 0⟩], wins := [⟨0, 0, 0, 0, 0⟩],
    expects := [⟨true, false, 0⟩] }

/-- Window 0 awaits its second look. -/
def lookingAgain : State := { on .lit with glare := { (on .lit).glare with intLooks := [(0, 5)] } }

theorem witness_FramesAreComposed_looks :
    ({ tiled with stage := .statistics }).tileLost ⟨[], some (0, 3), []⟩ = some (0, 0, 3) ∧
    tiled.tileMisread ⟨[], some (0, 3), []⟩ = some (0, 0, 3) ∧ tiled.tileMisread ⟨[], none, [(0, 7)]⟩ = none ∧
    lookingAgain.lookAgain tiled 0 = [(0, 5)] ∧ lookingAgain.intensityLasting tiled ⟨[], none, [(0, 7)]⟩ 0 = [0] ∧
    lookingAgain.intensityLasting tiled ⟨[], none, [(0, 0)]⟩ 0 = [] ∧ ((on .lit).writePar K.reactSignature 1).par K.reactSignature = 1 := by
  decide +kernel

theorem witness_CoveredPixelsAreDark : (2047 < 2048) ∧
    ({ frame .writing 0 with hostBoxes := [⟨true, 0, 0, 0, 2047, 511⟩] }).inBox 2047 511 = true ∧
    (frame .writing 0).inBox 0 0 = false ∧ defectIn (frame .writing 0).cal 0 0 ≠ 3 ∧ defectIn [(0x100000, 3)] 0 0 = 3 := by decide +kernel

theorem witness_WatchdogAndHalfLock :
    (frame .statistics 0).kind ≠ .fallback ∧ (frame .statistics 0).stage ≠ .written ∧ (frame .statistics 0).restarted = false ∧
    ({ frame .writing 3 with restarted := true, commit := some (plain 7 false) }).commit = some (plain 7 false) ∧
    (on .lit).par K.reactComposition = 3 ∧ ((on .lit).writePar K.reactComposition 4).par K.reactComposition = 4 ∧ (on .lit).tim.work = none ∧
    (on .lit).pwr.scan = true ∧ (on .lit).tim.diverged = none ∧ ((on .lit).writePar K.reactHalfLock 0).par K.reactHalfLock = 0 ∧
    (tim (on .lit) fun t => { t with diverged := some (0, 1, 2) }).tim.diverged ≠ none ∧ State.reset.pwr.scan = false := by decide +kernel

/-! ### Witnesses: the guard checker and the monitor -/

theorem witness_GuardAndMonitor :
    ({ on .lit with glare := { (on .lit).glare with guardRunning := true } }).glare.guardRunning = true ∧ (on .lit).pwr.comp = true ∧
    (on .lit).glare.guardRunning = false ∧ (on .lit).comp.monForming = none := by decide +kernel

/-- A displayed frame with one host box, whose second look is due. -/
def looking : State :=
  { tim (on .lit) (fun t => { t with disp := { Frame.reset with hostBoxes := [⟨true, 0, 4, 4, 5, 5⟩] } }) with
    glare := { (on .lit).glare with guardLooks := [(0, 0, 1)] } }

theorem witness_GuardAndMonitor_reread :
    looking.glare.guardLooks = [(0, 0, 1)] ∧ looking.glare.sigLooks = [] ∧ looking.zones.length = 512 ∧
    looking.tim.disp.boxSet.find? (fun e => e.1 == 0 && e.2.1 == 0) = some (0, 0, ⟨true, 0, 4, 4, 5, 5⟩) ∧
    violations (readCode (bankRows []) []) ⟨true, 0, 4, 4, 5, 5⟩ = [] ∧
    violations (readCode (bankRows []) [(5, 5, 1)]) ⟨true, 0, 4, 4, 5, 5⟩ = [(5, 5)] ∧ looking.pwr.comp = true := by decide +kernel

theorem witness_GuardAndMonitor_copy :
    ({ on .lit with comp := { (on .lit).comp with monForming := some (1, 2, true) } }).comp.monForming = some (1, 2, true) := by
  decide +kernel

/-! ### Witnesses: the supply and the gains -/

/-- A state with its supply record changed. -/
def sup (s : State) (f : Supply → Supply) : State := { s with sup := f s.sup }

theorem witness_OvervoltageAndSoftStart :
    (on .lit).sup.ovHold = false ∧ (sup (on .lit) fun u => { u with ovHold := true }).sup.ovHold = true ∧ (on .lit).sup.vledOn = false ∧
    (on .lit).lighting = true ∧ (on .ready).lighting = false ∧ (on .ready).pwr.trans = none ∧
    (sup (on .lit) fun u => { u with softStart := true }).sup.softStart = true ∧ (on .lit).sup.softStart = false ∧
    (on .service).pwr.dev = .service ∧ (on .service).lighting = false ∧ (on .lit).mgmt.logQueue.length < 64 := by decide +kernel

theorem witness_OvervoltageAndSoftStart_zones :
    0 < (on .lit).zones.length ∧ ((on .lit).zone 511).closed = false ∧ ((on .lit).zone 511).heldOpen = true ∧
    ({ Zone.reset with causes := [] }).heldOpen = false := by decide +kernel

theorem witness_PhasesAndGainsFollowTheRail :
    (on .lit).sup.phases.length = 6 ∧ (on .lit).sup.vledOn = false ∧ (rail (on .lit)).sup.vledOn = true ∧
    (rail (on .lit)).sup.softStart = false ∧ (∀ p ∈ (rail (on .lit)).sup.phases, p.limitLook = none ∧ p.startLook = none) ∧
    (rail (on .lit)).phasesOn.length < (rail (on .lit)).nOk ∧ (rail (on .lit)).phasesOn = [] := by decide +kernel

theorem witness_PhasesAndGainsFollowTheRail_band :
    ((2900 - 1 - (rail (on .lit)).par K.vband : Nat) : Int) - (rail (on .lit)).sup.vset < -((rail (on .lit)).par K.vband : Int) ∧
    ((rail (on .lit)).par K.vband : Int) < ((2901 + (rail (on .lit)).par K.vband : Nat) : Int) - (rail (on .lit)).sup.vset ∧
    0 < (sup (rail (on .lit)) fun u => { u with phases := u.phases.map fun p => { p with on := true } }).phasesOn.length := by
  decide +kernel

theorem witness_SupplySupervisors_rail :
    (sup (rail (on .lit)) fun u => { u with feRunning := true }).sup.feRunning = true ∧ (rail (on .lit)).sup.feRunning = false ∧
    (sup (rail (on .lit)) fun u => { u with feRunning := true, feLeft := some 0 }).now ≤ 0 + 60000000 ∧ (on .lit).sup.vledOn = false := by
  decide +kernel

theorem witness_SupplySupervisors_zone : ((on .lit).zone 0).fePending = false ∧ (on .lit).zones.length = 512 ∧
    ({ on .lit with zones := (on .lit).zones.set 511 { Zone.reset with fePending := true } }.zone 511).fePending = true := by decide +kernel

/-- The rail is up and zone 0 draws 1 A. -/
def drawing : State := { rail (on .lit) with zones := (on .lit).zones.set 0 { Zone.reset with samples := [1000000] } }

theorem witness_SupplySupervisors_power :
    drawing.zoneCurrents = 1000000 ∧ 0 * drawing.zoneCurrents ≤ drawing.powerLimit * 1000000 ∧
    drawing.powerLimit * 1000000 ≤ drawing.powerLimit * drawing.zoneCurrents ∧
    drawing.powerLimit * 1000000 < (drawing.powerLimit + 1) * drawing.zoneCurrents ∧ drawing.sup.pmeasLook = none ∧
    (sup drawing fun u => { u with pmeasLook := some 1 }).sup.pmeasLook ≠ none ∧
    ((sup drawing fun u => { u with pmeasLook := some 1 }).writePar K.reactPower 0).par K.reactPower = 0 := by decide +kernel

theorem witness_SupplySupervisors_react : drawing.par K.reactPower = 3 ∧ (drawing.writePar K.reactPower 4).par K.reactPower = 4 ∧
    drawing.pwr.dev ≠ .safeDark ∧ drawing.sup.vledOn = true := by decide +kernel

theorem witness_SupplySupervisors_store : (on .lit).lighting = true ∧ (∀ z ∈ (on .lit).zones, absDiff z.gz z.stored < 16) ∧
    (∃ z ∈ (({ on .lit with zones := (on .lit).zones.set 3 { Zone.reset with gz := 16400 } }) : State).zones, 16 ≤ absDiff z.gz z.stored) := by
  decide +kernel

theorem witness_PhasesAndGainsFollowTheRail_gains : (rail (on .lit)).sup.vledOn = true ∧ 8192 ≤ ((rail (on .lit)).zone 511).gz ∧
    ((rail (on .lit)).zone 511).gz ≤ 24576 ∧ ((rail (on .lit)).zone 511).closed = false ∧ (on .lit).sup.vledOn = false ∧
    (rail (on .lit)).gainDueFor 0 = false := by decide +kernel

theorem witness_PhasesAndGainsFollowTheRail_gains_edges : ∃ s : State, s.sup.vledOn = true ∧ (s.zone 0).gz = 8192 ∧ (s.zone 1).gz = 24576 ∧
    (s.zone 0).closed = true :=
  ⟨{ rail (on .lit) with zones := [{ Zone.reset with gz := 8192, closed := true }, { Zone.reset with gz := 24576 }] }, by decide +kernel⟩

/-! ### Witnesses: sensing and reflex -/

/-- A sense cycle in progress. -/
def sensingIn (cells : CellPhase) (discard : Bool) (look : List (Nat × Nat)) : State :=
  { on .lit with sense := { (on .lit).sense with inCycle := true, cells := cells, discard := discard, adcLook := look } }

theorem witness_SenseResults :
    (sensingIn .probe false []).sense.inCycle = true ∧ (sensingIn .probe false []).sense.cells = .probe ∧
    (sensingIn .probe false []).sense.lum = [] ∧ (on .lit).sense.inCycle = false ∧ (sensingIn .road true []).sense.cells ≠ .probe ∧
    (sensingIn .probe true []).sense.discard = true := by decide +kernel

theorem witness_SenseResults_road :
    ((sensingIn .road false []).sense.cells = .road ∧ (sensingIn .road false []).sense.adcFaulty = [] ∧
      (∀ z, z < 512 → adcPasses (readingAt ⟨2048, []⟩ z) = true)) ∧ Safety.notFailed (sensingIn .road false []) :=
  ⟨by decide +kernel, by decide +kernel, no_failed_bits _ (by decide +kernel)⟩

theorem witness_SenseResults_adc :
    (sensingIn .road false [(511, 1)]).sense.adcLook = [(511, 1)] ∧
    (∀ j, j < 512 → adcPasses (readingAt ⟨2024, [(511, 2073)]⟩ j) = decide (j ≠ 511)) := by decide +kernel

/-- A running module's sense cadence stands at a boundary. -/
def cadence (inCycle : Bool) (since : Nat) (more : Sense → Sense) : State :=
  { on .lit with sense := more { (on .lit).sense with started := true, inCycle := inCycle, since := since } }

theorem witness_SenseResults_cycle :
    (cadence false 300 id).lighting = true ∧ (cadence false 300 id).tim.work = none ∧ 0 < (cadence false 300 id).sense.n ∧
    (cadence false 300 id).sense.n ≤ (cadence false 300 id).sense.since + 1 ∧ (cadence false 0 id).sense.since + 1 < (cadence false 0 id).sense.n ∧
    (cadence false 300 id).zones.length = 512 ∧ (cadence false 300 id).sense.resumeAt = none ∧ (cadence false 300 id).sense.repeatNext = false ∧
    (cadence false 300 id).senseState ≠ 1 ∧ (cadence false 300 fun e => { e with repeatNext := true }).sense.repeatNext = true ∧
    (cadence true 0 fun e => { e with sweepEnds := true }).sense.sweepEnds = true ∧ (cadence true 0 id).sense.discard = false ∧
    (cadence true 0 fun e => { e with mapNew := some [1] }).sense.mapNew = some [1] := by decide +kernel

/-- A published map waits. -/
def mapped (map : List Nat) (slots : List ReflexSlot) : State :=
  { (on .lit).writePar K.reflexEnable 1 with
    glare := { (on .lit).glare with mapWaiting := true, slots := slots }, sense := { (on .lit).sense with map := map } }

theorem witness_ReflexCoversEveryBlob :
    (mapped [] [ReflexSlot.reset]).glare.mapWaiting = true ∧ (mapped [] [ReflexSlot.reset]).flag K.reflexEnable = true ∧
    1 ≤ (mapped [] [ReflexSlot.reset]).par K.reflexMaxBoxes ∧ (mapped [] [ReflexSlot.reset]).glare.slots ≠ [] ∧
    (on .lit).glare.mapWaiting = false := by decide +kernel

theorem witness_ReflexCoversEveryBlob_none : (mapped [] [ReflexSlot.reset]).reflexBlobs = [] := by decide +kernel

theorem witness_ReflexCoversEveryBlob_some : (mapped (List.replicate 3000 3000) [ReflexSlot.reset]).flag K.reflexEnable = true ∧
    (mapped (List.replicate 3000 3000) [ReflexSlot.reset]).glare.mapWaiting = true := by decide +kernel

theorem witness_ReflexCoversEveryBlob_hold :
    (((mapped [] (List.replicate 16 { ReflexSlot.reset with used := true })).glare.slots.getD 15 ReflexSlot.reset).used = true) ∧
    (on .standby).sensing = false ∧ ((on .lit).glare.slots.getD 0 ReflexSlot.reset).used = false := by decide +kernel

/-! ### Witnesses: the thermal supervisor -/

/-- Every diode reads a value, with a first look of a shutdown or none. -/
def hot (v : Int) (look : Option Int) : State :=
  { on .lit with therm := { (on .lit).therm with diodes := List.replicate 4 { Diode.reset with raw := v, t10 := v, shutLook := look } } }

theorem witness_ThermalProtection_diode :
    (hot 250 none).therm.diodes.length = 4 ∧ ((hot 250 none).diode 3).valid = true ∧ ((hot 250 none).diode 3).look = none ∧
    implausible 400 ((hot 250 none).diodeReference 3) = 0 ∧ ((hot 250 none).diode 3).shutLook = none ∧
    implausible 1500 ((hot 1500 (some 1500)).diodeReference 0) = 0 ∧ (hot 1500 (some 1500)).shut10 (emitterDiode 0) ≤ 1500 ∧
    implausible 1350 ((hot 1350 (some 1350)).diodeReference 2) = 0 ∧ (hot 1350 (some 1350)).shut10 (emitterDiode 2) ≤ 1350 := by
  decide +kernel

theorem witness_ThermalProtection_unsampled :
    State.reset.pwr.life ≠ .running ∧ (on .park).pwr.dev = .park ∧ (on .standby).pwr.dev = .standby ∧ (hot 250 none).pwr.dev ≠ .park := by
  decide +kernel

theorem witness_ThermalProtection_zone : ((on .lit).ztemp 511).shutLook = none ∧
    ({ on .lit with therm := { (on .lit).therm with zones := [{ ZoneTemp.reset with mode := .measured, shutLook := some 1500 }] } }.ztemp 0).valid
      = true ∧
    ({ on .lit with therm := { (on .lit).therm with zones := [{ ZoneTemp.reset with shutLook := some 1500 }] } }.ztemp 0).shutLook ≠ none := by
  decide +kernel

theorem witness_ThermalProtection_record : (on .lit).therm.records = [] ∧
    ({ on .lit with therm := { (on .lit).therm with records := [[1], [2]] } }).therm.records = [1] :: [[2]] ∧ (on .lit).rally.phase ≠ .handover ∧ (1250 : Int) < 1350 := by decide +kernel

/-! ### Witnesses: the host and the fallback beam -/

/-- The host is present, or not. -/
def host (s : State) (present : Bool) : State := { s with flt := { s.flt with hostPresent := present } }

theorem witness_HostPresence :
    (host (on .lit) true).up = true ∧ (on .lit).can.busOff = false ∧ (on .lit).par K.hostLoss ≠ 0 ∧ (host (on .lit) true).flt.hostPresent = true ∧
    (on .lit).flt.hostPresent = false ∧ 63 ≠ (on .lit).par K.hostAddr ∧ State.reset.up = false ∧
    ({ on .lit with flt := { (on .lit).flt with hostLostRaised := true } }).flt.hostLostRaised = true := by decide +kernel

theorem witness_HostPresence_tie : ({ on .lit with flt := { (on .lit).flt with beat := some 0 } }).flt.beat = some (on .lit).now ∧
    (on .lit).flt.beat ≠ some (on .lit).now := by decide +kernel

theorem witness_engages (d : DevState) (hd : d = .ready ∨ d = .lit ∨ d = .standby) : Safety.engages (on d) := by
  rcases hd with rfl | rfl | rfl <;> exact ⟨by decide +kernel, by decide +kernel, by decide +kernel, by decide +kernel,
    ⟨by decide +kernel, no_failed_bits _ (by decide +kernel)⟩, ⟨rfl, rfl⟩⟩

theorem witness_engages_noHost : Safety.engages { on .lit with flt := { (on .lit).flt with hostLostRaised := true } } :=
  ⟨by decide +kernel, by decide +kernel, by decide +kernel, by decide +kernel,
    ⟨by decide +kernel, no_failed_bits _ (by decide +kernel)⟩, ⟨rfl, rfl⟩⟩

/-- The fallback beam with causes. -/
def fallen (causes : List FbCause) : State := { on .fallback with flt := { (on .fallback).flt with fbCauses := causes } }

theorem witness_PinsEngageTheFallbackBeam :
    (on .lit).up = true ∧ (on .lit).flt.hostPresent = false ∧ (fallen []).pwr.dev = .fallback ∧ (fallen []).flt.health ≠ 2 ∧
    (fallen []).rally.phase ≠ .handover ∧ (on .service).pwr.dev = .service ∧ (on .service).up = true ∧
    (fallen [.limpN]).flt.fbCauses = [.limpN] ∧ (fallen [.limpN]).pwr.trans = none ∧ (on .lit).flt.limpTried = false ∧
    (on .lit).pwr.limpLow = false := by decide +kernel

/-- SAFE_DARK with cause SUPERVISOR and LIMP_N low. -/
def darkened : State :=
  { on .safeDark with pwr := { (on .safeDark).pwr with dark := [.supervisor], limpLow := true } }

theorem witness_PinsEngageTheFallbackBeam_attempt :
    (darkened.up = true ∧ darkened.pwr.dev = .safeDark ∧ darkened.pwr.dark = [.supervisor] ∧ darkened.pwr.limpLow = true ∧
      darkened.flt.limpTried = false ∧ darkened.selectImage ≠ none ∧ darkened.flt.hostPresent = false) ∧ Safety.notFailed darkened :=
  ⟨by decide +kernel, by decide +kernel, no_failed_bits _ (by decide +kernel)⟩

/-- No usable image in flash. -/
def noImage (s : State) : State :=
  { s with flash := { s.flash with surface0 := ⟨.bad, .bad⟩, fbImages := List.replicate 4 ⟨.bad, .bad⟩ } }

theorem witness_PinsEngageTheFallbackBeam_held : (noImage darkened).selectImage = none ∧ (noImage darkened).rally.phase ≠ .handover ∧
    ({ darkened with rally := { Rally.reset with phase := .handover } }).rally.phase = .handover ∧ Safety.nothingHeld darkened := by
  decide +kernel

theorem witness_FallbackRenders_vin :
    let same := { fallen [] with flt := { (fallen []).flt with renderBudgets := (fallen []).renderBudgets } }
    (same.renderBudgets.zip same.flt.renderBudgets).any (fun e => changedBy e.1 e.2) = false ∧
    (∃ s : State, s.pwr.dev = .fallback ∧ s.flt.renderOn = false ∧ s.rally.phase ≠ .handover ∧ s.selectImage ≠ none ∧
      (s.renderBudgets.zip s.flt.renderBudgets).any (fun e => changedBy e.1 e.2) = true) :=
  ⟨by decide +kernel, { fallen [] with flt := { (fallen []).flt with renderBudgets := [1, 1] } }, by decide +kernel⟩

theorem witness_FallbackRenders :
    (fallen []).flt.renderOn = false ∧ (fallen []).selectImage ≠ none ∧
    ({ fallen [] with flt := { (fallen []).flt with renderOn := true } }).flt.renderOn = true ∧ (on .lit).pwr.dev ≠ .fallback ∧
    (fallen []).tim.work = none ∧ (on .standby).pwr.dev = .standby ∧ (on .lit).mayCompose = true := by decide +kernel

theorem witness_FallbackRenders_frame :
    ({ Frame.reset with kind := .fallback }).stage = .statistics ∧ ({ Frame.reset with kind := .fallback, stage := .writing }).kind = .fallback := by
  decide +kernel

/-! ### Witnesses: Vexlink lanes -/

/-- A Vexlink record changed. -/
def vex (s : State) (f : Vex → Vex) : State := { s with vex := f s.vex }

/-- A receiver state, with every lane aligned or not. -/
def recv (rx : RxState) (aligned : Bool) : State :=
  vex (on .lit) fun v => { v with rx := rx, lanes := List.replicate 4 { Lane.reset with aligned := aligned } }

theorem witness_LanesComeUp_lock :
    (recv .off false).laneService = true ∧ (recv .off false).vex.rx = .off ∧ (recv .lock false).vex.rx = .lock ∧
    (recv .lock false).vex.retryDue = false ∧ (recv .align false).vex.lanes[3]? = some Lane.reset ∧ Lane.reset.aligned = false ∧
    Lane.reset.tries < 4 ∧ (recv .align false).vex.failRun = false := by decide +kernel

theorem witness_LanesComeUp_fifth : (vex (recv .align false) fun v => { v with lanes := [{ Lane.reset with tries := 4 }] }).vex.lanes[0]? =
    some { Lane.reset with tries := 4 } := by decide +kernel

theorem witness_LanesComeUp_deskew :
    (recv .deskew true).vex.lanes.length = 4 ∧
    (∀ i ∈ (recv .deskew true).alignedLanes, ∀ j ∈ (recv .deskew true).alignedLanes, [0, 32, 5, 1].getD i 0 ≤ [0, 32, 5, 1].getD j 0 + 32) ∧
    (∃ i ∈ (recv .deskew true).alignedLanes, ∃ j ∈ (recv .deskew true).alignedLanes, [0, 33, 5, 1].getD j 0 + 32 < [0, 33, 5, 1].getD i 0) := by
  decide +kernel

theorem witness_LanesComeUp_map : (recv .enum true).vex.rx = .enum ∧
    laneMapFault (recv .enum true).vxLanes ((recv .enum true).par K.vxWidth) [none, none, none, none] ≠ none ∧
    (recv .enum true).vex.retryDue = false := by decide +kernel

theorem witness_LanesComeUp_up : ∃ info, laneMapFault (recv .enum true).vxLanes ((recv .enum true).par K.vxWidth) info = none :=
  ⟨[some 0x80, some 0x90, some 0xA0, some 0xB0], by decide +kernel⟩

/-- The receiver is UP and the transmitter in a lane state. -/
def linked (tx rx : LaneState) : State := vex (recv .up true) fun v => { v with txLane := tx, rxLane := rx }

theorem witness_LanesLoseAndWake :
    (linked .l0 .l0).pwr.link = true ∧ (linked .l0 .l0).up = true ∧ (linked .l0 .l0).vex.rx = .up ∧ (recv .lock false).vex.rx ≠ .up ∧
    (vex (recv .lock false) fun v => { v with lost := true }).vex.lostTimed = false ∧ (on .lit).vex.lost = false ∧
    (linked .l0 .l1).vex.rxLane ≠ .l0 ∧ (linked .l0 .l1).par K.vxTxIdle ≠ 0 ∧ (linked .l0 .l1).vex.own = [] ∧ (linked .l0 .l1).vex.retx = [] ∧
    (linked .l1 .l0).vex.txLane ≠ .l0 := by decide +kernel

theorem witness_LanesLoseAndWake_active :
    (vex (recv .up true) fun v => { v with lanes := [{ Lane.reset with logical := some 0 }] }).laneActive 0 = true ∧
    (recv .up true).laneActive 3 = false ∧ (linked .l0 .l1).vex.wakeLock = false ∧
    (vex (linked .l0 .l1) fun v => { v with wakeLock := true }).vex.wakeLock = true := by decide +kernel

theorem witness_LanesLoseAndWake_sleep :
    (vex (on .standby) fun v => { v with rx := .up, txLane := .l2 }).pwr.dev = .standby ∧ (on .standby).vex.restart = false ∧
    (vex (on .lit) fun v => { v with rx := .sleep, wakeLock := true }).vex.rx = .sleep ∧
    (vex (linked .l1 .l0) fun v => { v with own := [.packet ⟨0x21, 0, 0, []⟩] }).vex.own ≠ [] ∧ (linked .l1 .l0).vex.txLane = .l1 ∧
    (linked .l0 .l0).vex.txLane ≠ .l1 ∧ (vex (on .lit) fun v => { v with restart := true }).vex.restart = true := by decide +kernel

/-- A packet is being forwarded, or waits to be. -/
def forwarding (sending : Sending) (fwd : List Forwarding) (fwdOpen : Bool) : State :=
  vex (linked .l0 .l1) fun v => { v with sending := sending, fwd := fwd, fwdOpen := fwdOpen }

theorem witness_LanesLoseAndWake_forward :
    (forwarding .nothing [] false).forwarding = false ∧ (forwarding .forwardedPacket [] false).forwarding = true ∧
    (forwarding .nothing [⟨[], .lost, false⟩] false).forwarding = true ∧ (forwarding .nothing [] true).vex.fwdOpen = true := by decide +kernel

theorem witness_LanesLoseAndWake_burst :
    let s := (vex (on .standby) fun v => { v with rxLane := .l2 }).writePar K.wakeEnable 63
    s.vex.rx ≠ .sleep ∧ s.vex.rxLane = .l2 ∧ bitOf (s.par K.wakeEnable) 5 = true ∧ s.ctrlDark = false ∧ s.evMask 96 = false ∧
    (vex (on .standby) fun v => { v with rx := .up, txLane := .l2 }).vex.restart = false := by decide +kernel

theorem witness_LanesLoseAndWake_beat :
    ({ on .lit with flt := { (on .lit).flt with beat := some 0 } }).fresh (some 0) = true ∧ (on .lit).fresh none = false := by decide +kernel

/-! ### Witnesses: Vexlink packets -/

/-- A header of given fields, with its HCRC. -/
def header (dst src type flags seq len tag epoch hops : Nat) : List Byte :=
  let b := u8 dst ++ u8 src ++ u8 type ++ u8 flags ++ u16 seq ++ u16 len ++ u32 tag ++ u8 epoch ++ u8 hops
  b ++ u16 (headerCrc b)

/-- A packet to module 5 in epoch 0 from the host, with its packet CRC. -/
def packet (dst type flags seq tag : Nat) (payload : List Byte) : VxPacket :=
  let h := header dst 0x40 type flags seq payload.length tag 0 1
  ⟨h, payload, packetCrc (if dst = 0x7F then 0x7F else 5) 0 h payload, false⟩

/-- The receiver is UP, and the module has the address 5. -/
def member (d : DevState) : State := vex (on d) fun v => { v with rx := .up, rxLane := .l0, txLane := .l0, addr := some 5 }

theorem witness_PacketsAreRouted :
    (member .lit).receiving = true ∧ headerBad (List.replicate 16 1) = true ∧ headerBad (header 5 0x40 1 0 1 0 0 0 64) = false ∧
    64 ≤ (parseHeader (header 5 0x40 1 0 1 0 0 0 64)).hops ∧ (parseHeader (header 5 0x40 1 0 1 0 0 0 64)).hostEnum = false ∧
    (member .lit).fate (header 6 0x40 1 0 1 0 0 0 63) = .forward ∧ (member .lit).fate (header 0x40 0x40 1 0 1 0 0 0 1) = .both ∧
    (member .lit).fate (header 5 0x40 1 0 1 0 0 1 1) = .forward ∧ (member .lit).fate (header 5 0x40 1 0 1 0 0 0 1) = .consume ∧
    (member .lit).fate (header 0x40 0x40 0x40 0 1 0 0 9 1) = .enum ∧ (on .lit).receiving = false := by decide +kernel

theorem witness_PacketsAreRouted_output :
    (member .lit).vex.addr = some 5 ∧ (member .lit).vex.txLane = .l0 ∧ (member .lit).vex.retx = [] ∧ (member .lit).vex.own = [] ∧
    (vex (member .lit) fun v => { v with own := [.packet ⟨0x21, 0, 0, []⟩] }).vex.own = [.packet ⟨0x21, 0, 0, []⟩] ∧ (on .lit).vex.addr = none ∧
    (vex (member .lit) fun v => { v with retx := [⟨0, 5, 0, true, ⟨0x21, 0, 0, []⟩⟩] }).vex.retx = [⟨0, 5, 0, true, ⟨0x21, 0, 0, []⟩⟩] ∧
    ((member .lit).writePar K.statusPeriod 10).par K.statusPeriod ≠ 0 ∧ (member .lit).up = true := by decide +kernel

theorem witness_PacketsAreRouted_queue :
    let s := fun (sending : Sending) (fwd : List Forwarding) (o : Bool) => vex (member .lit) fun v =>
      { v with sending := sending, fwd := fwd, fwdOpen := o }
    (s .nothing [] false).vex.fwdOpen = false ∧ (s .nothing [⟨[], .eop, false⟩] false).vex.fwd.any Forwarding.buffered = false ∧
    (s .nothing [⟨[], .eop, true⟩] false).vex.fwd.any Forwarding.buffered = true ∧ (s .ownPacket [] false).vex.sending ≠ .nothing ∧
    (s .forwardedPacket [] true).vex.fwdOpen = true ∧ (vex (member .lit) fun v => { v with txLane := .l1 }).vex.txLane ≠ .l0 ∧
    (vex (on .lit) fun v => { v with fwd := [⟨[], .eop, false⟩] }).vex.addr = none := by decide +kernel

theorem witness_PacketsAreRouted_wire :
    let q : SentPacket := ⟨65535, 63, 255, true, ⟨0x43, 5, 0xFFFFFFFF, List.replicate 4096 1⟩⟩
    q.seq < 65536 ∧ q.addr < 64 ∧ q.epoch < 256 ∧ q.packet.type < 256 ∧ q.packet.flags < 8 ∧ bitOf q.packet.flags 1 = false ∧
    q.packet.tag < 2 ^ 32 ∧ q.packet.payload.length ≤ 4096 ∧ q.packet.payload.length % 4 = 0 := by decide +kernel

/-- The member with a surface of 64 by 64 at page 0, in SEAL mode. -/
def canvas (n : Nat) : State :=
  (((((member .lit).writePar (0x231000 + 256 * n + K.surfBase) 0).writePar (0x231000 + 256 * n + K.surfSize) 8192).writePar
    (0x231000 + 256 * n + K.surfWidth) 64).writePar (0x231000 + 256 * n + K.surfHeight) 64)

/-- A SURF_WRITE of 4 bytes. -/
def write4 (n off : Nat) : VxPacket := packet 5 0x01 0 9 off ([BitVec.ofNat 8 n, 0, 0, 0] ++ [1, 2, 3, 4])

theorem witness_SurfacePackets_write :
    Safety.consumes (canvas 1) (write4 1 0) 0x01 ∧ 4 + field (write4 1 0).payload 1 1 ≤ (write4 1 0).payload.length ∧
    field (write4 1 0).payload 1 1 ≤ 3 ∧ field (write4 1 0).payload 2 2 = 0 ∧ (Safety.heard (canvas 1) (write4 1 0)).pwr.comp = true ∧
    (Safety.heard (canvas 1) (write4 1 0)).surfLevelRefused 1 = false ∧
    ((Safety.heard (canvas 1) (write4 1 0)).surfAfter 1).rangeRefused 1 8192 4 = true ∧
    ((Safety.heard (canvas 1) (write4 1 0)).surfAfter 1).rangeRefused 1 8188 4 = false ∧
    (Safety.heard (canvas 1) (write4 1 0)).surfNext 1 K.surfVerify = 0 ∧ (parseHeader (write4 1 0).header).last = false ∧
    (Safety.heard (canvas 1) (write4 1 0)).waitsFor 1 = false ∧ (Safety.heard (canvas 1) (write4 1 0)).surf.surf.length = 64 ∧
    (Safety.heard (canvas 1) (write4 1 0)).inUse 1 = false ∧ (Safety.heard (canvas 1) (write4 1 0)).queueBytes = 0 := by
  unfold Safety.consumes; decide +kernel

/-- The canvas with what waits for room in the write queue, or is held in it. -/
def busy (waiting : List Waiting) (queue : List Held) : State :=
  { canvas 1 with surf := { (canvas 1).surf with waiting := waiting, queue := queue } }

theorem witness_SurfacePackets_waits :
    (Safety.heard (busy [⟨.clear 1, 0, .packet none⟩] []) (write4 1 0)).waitsFor 1 = true ∧
    (Safety.heard (busy [⟨.clear 2, 0, .packet none⟩] []) (write4 1 0)).waitsFor 1 = false ∧
    ((Safety.heard (busy [] [.clear 1]) (write4 1 0)).surf.queue.any fun q => q.surface == 1) = true ∧
    ((Safety.heard (busy [] [.clear 1]) (write4 1 0)).surfAfter 1).rangeRefused 1 8188 4 = false ∧
    (Safety.heard (busy [] [.clear 1]) (write4 1 0)).surfNext 1 K.surfVerify = 0 := by decide +kernel

theorem witness_SurfacePackets_inUse :
    (Safety.heard (tim (canvas 1) fun t => { t with work := some { frame .statistics 0 with surfaces := [1] } }) (write4 1 0)).inUse 1 = true := by
  decide +kernel

/-- A BEAM_LINE of one row of 64 samples. -/
def line (n row : Nat) : VxPacket := packet 5 0x10 0 9 (0x1000000 + 65536 * n + row) (List.replicate 64 5)

theorem witness_SurfacePackets_line :
    Safety.consumes (canvas 1) (line 1 63) 0x10 ∧ bits (parseHeader (line 1 63).header).tag 16 8 = 1 ∧
    bits (parseHeader (line 1 63).header).tag 0 16 + bits (parseHeader (line 1 63).header).tag 24 8 ≤
      ((Safety.heard (canvas 1) (line 1 63)).surfAfter 1).surfPar 1 K.surfHeight ∧
    (line 1 63).payload.length = ((Safety.heard (canvas 1) (line 1 63)).surfAfter 1).surfPitch 1 ∧
    ((Safety.heard (canvas 1) (line 1 63)).surfAfter 1).surfIsPtc 1 = false := by
  unfold Safety.consumes; decide +kernel

/-- A SURF_READ. -/
def readOf (n off len : Nat) : VxPacket := packet 5 0x02 0 9 off ([BitVec.ofNat 8 n, 0, 0, 0] ++ u32 len)

theorem witness_SurfacePackets_read :
    Safety.consumes (canvas 1) (readOf 1 0 8192) 0x02 ∧ (readOf 1 0 8192).payload.length = 8 ∧ field (readOf 1 0 8192).payload 0 1 = 1 ∧
    field (readOf 1 0 8192).payload 1 3 = 0 ∧ field (readOf 1 0 8192).payload 4 4 = 8192 ∧
    0 + 8192 ≤ (Safety.heard (canvas 1) (readOf 1 0 8192)).surfPar 1 K.surfSize ∧ (canvas 1).can.canOnly = false := by
  unfold Safety.consumes; decide +kernel

theorem witness_OtherPackets_commit :
    Safety.consumes (member .lit) (packet 5 0x11 0 9 77 [0, 0, 0, 0]) 0x11 ∧ (member .lit).comp.campionOn = false ∧
    (∃ r, parseCommit (packet 5 0x11 0 9 77 [0, 0, 0, 0]).payload = .ok r) ∧
    Safety.consumes (member .lit) (packet 5 0x11 0 9 77 [0xFF, 0xFF, 0xFF, 0xFF]) 0x11 ∧
    ({ member .lit with comp := { (member .lit).comp with campionOn := true } }).comp.campionOn = true := by
  refine ⟨?_, by decide +kernel, ⟨_, rfl⟩, ?_, by decide +kernel⟩ <;> unfold Safety.consumes <;> decide +kernel

theorem witness_OtherPackets_fallback :
    Safety.consumes (member .fallback) (packet 5 0x11 0 9 77 [0, 0, 0, 0]) 0x11 ∧
    (Safety.heard (member .fallback) (packet 5 0x11 0 9 77 [0, 0, 0, 0])).tim.toBind = [] ∧
    (Safety.heard (member .fallback) (packet 5 0x11 0 9 77 [0, 0, 0, 0])).selectImage ≠ none ∧
    (Safety.heard (member .fallback) (packet 5 0x11 0 9 77 [0, 0, 0, 0])).rally.phase ≠ .handover := by
  unfold Safety.consumes; decide +kernel

theorem witness_OtherPackets_bad : ∃ off, parseCommit [0xFF, 0xFF, 0xFF, 0xFF] = .error off := ⟨_, rfl⟩

theorem witness_OtherPackets_other :
    Safety.consumes (member .lit) (packet 5 0x77 0 9 0 []) 0x77 ∧ creditedType 0x77 = false ∧
    Safety.consumes (member .lit) (packet 5 0x41 0 9 0 (ackPayload 3 0x21 1 0)) 0x41 ∧
    (member .lit).vex.copies.find? (fun c => c.1.seq == 3 && c.1.epoch == 0 && !c.2) = none ∧
    (vex (member .lit) fun v => { v with copies := [(⟨3, 5, 0, false, ⟨0x21, 0, 0, []⟩⟩, false)] }).vex.copies.find?
      (fun c => c.1.seq == 3 && c.1.epoch == 0 && !c.2) = some (⟨3, 5, 0, false, ⟨0x21, 0, 0, []⟩⟩, false) ∧ (member .lit).fate (header 0x40 0x40 0x40 0 1 0 0 9 5) = .enum := by
  unfold Safety.consumes; decide +kernel

/-- An ENUM for epoch 9. -/
def enumPacket : VxPacket :=
  let h := header 0x40 0x40 0x40 0 1 0 0x1234 9 5
  ⟨h, [], packetCrc 0x7F 9 h [], false⟩

theorem witness_OtherPackets_enum : (member .lit).packetPasses enumPacket = true ∧ (parseHeader enumPacket.header).retry = false ∧
    (member .lit).rally.phase ≠ .handover ∧
    ({ member .lit with rally := { (member .lit).rally with phase := .handover } }).receiving = true ∧
    (member .lit).fate enumPacket.header = .enum ∧ (member .lit).vex.sending = .nothing ∧ (member .lit).vex.fwd = [] := by decide +kernel

/-! ### Witnesses: check values, surfaces and flash -/

/-- A state with its check record changed. -/
def chk (s : State) (f : Checks → Checks) : State := { s with chk := f s.chk }

theorem witness_ScansReport :
    (on .lit).chk.scan = none ∧ (on .lit).chk.waiting = [] ∧ (on .lit).pwr.comp = true ∧ State.reset.pwr.comp = false ∧
    (chk (on .lit) fun c => { c with scan := some ⟨.host, 0, 0⟩ }).chk.scan = some ⟨.host, 0, 0⟩ ∧ (on .lit).crcsParams ≠ none ∧
    bits ((on .lit).par K.crcsCfg) 22 2 ≠ 1 ∧ (on .lit).chk.looks = [] ∧ (on .lit).regionLost 2 = false ∧
    ({ on .lit with flash := { (on .lit).flash with gp := ⟨.bad, .erased⟩ } }).regionLost 1 = true ∧
    (chk (on .lit) fun c => { c with scan := some ⟨.scrubCal 2, 0, 0⟩, looks := [(.scrubCal 2, 7)] }).chk.looks = [(.scrubCal 2, 7)] := by decide +kernel

theorem witness_ScansReport_zone : ∃ s : State, s.chk.scan = some ⟨.scrubCal 2, 0x140000, 64⟩ ∧ s.chk.waiting = [] ∧ s.pwr.comp = true ∧
    s.scrubPasses 2 s.chk.cal = false ∧ s.chk.looks = [] :=
  ⟨chk (on .lit) fun c => { c with scan := some ⟨.scrubCal 2, 0x140000, 64⟩, cal := [(0x140000, 1)] }, by decide +kernel⟩

theorem witness_ScansReport_passes : (on .lit).scrubPasses 513 (on .lit).chk.cal = true := by decide +kernel

/-- A surface of the canvas is in a state. -/
def surfaceIn (n : Nat) (p : SurfPhase) (looks : List (Nat × Option Nat)) : State :=
  { canvas n with surf := { (canvas n).surf with
      surf := (canvas n).surf.surf.set n { Surface.reset with phase := p, looks := looks } } }

theorem witness_ScansReport_verify :
    (surfaceIn 63 .verifying []).surf.surf.length = 64 ∧ ((surfaceIn 63 .verifying []).surface 63).phase = .verifying ∧
    (surfaceIn 63 .verifying []).verifyChecks 63 [1] ≠ 0 ∧
    (surfaceIn 63 .verifying []).verifyChecks 63 [1] ∉ ((surfaceIn 63 .verifying []).surface 63).looks.map Prod.fst ∧
    (surfaceIn 63 .verifying [(1, none)]).verifyChecks 63 [1] ∈ ((surfaceIn 63 .verifying [(1, none)]).surface 63).looks.map Prod.fst := by decide +kernel

theorem witness_ScansReport_verified : ∃ (s : State) (bs : List Byte), (s.surface 1).phase = .verifying ∧ s.verifyChecks 1 bs = 0 :=
  ⟨(surfaceIn 1 .verifying []).writePar (0x231000 + 256 + K.surfSeal) (crc32c [7]), [7], by decide +kernel⟩

theorem witness_ScansReport_crcs :
    Safety.accepts (on .standby) (Safety.order can2 K.crcsCmd 1 1) ∧ Safety.accepts (on .standby) (Safety.order can2 K.crcsCmd 1 2) ∧
    (on .standby).chk.crcsState ≠ 1 ∧ ((on .standby).access can2.via).level = .user := by
  unfold Safety.accepts Safety.taken; decide +kernel

theorem witness_ScansReport_crcsRefused : ∃ s : State, Safety.taken s (Safety.order can2 K.crcsCmd 1 1) ∧
    s.writeError (s.access can2.via).level (Safety.order can2 K.crcsCmd 1 1).index (Safety.order can2 K.crcsCmd 1 1).sub 0
      (Safety.order can2 K.crcsCmd 1 1).data false = some (0x0F, 0) ∧ s.crcsRefused .user = true :=
  ⟨((on .standby).writePar K.crcsSource 1).writePar K.crcsLength 0xFFFFFFFF, by unfold Safety.taken; decide +kernel⟩

theorem witness_ScansReport_crcsRuns : ∃ s : State, Safety.accepts s (Safety.order can2 K.crcsCmd 1 1) ∧ s.crcsRefused .user = false ∧
    s.par K.crcsSource ≠ 0 ∧ s.pwr.comp = true ∧ s.chk.scan = none ∧ s.chk.waiting = [] :=
  ⟨((on .standby).writePar K.crcsSource 1).writePar K.crcsLength 4, by unfold Safety.accepts Safety.taken; decide +kernel⟩

theorem witness_ScansReport_crcsAbort : ∃ s : State, Safety.accepts s (Safety.order can2 K.crcsCmd 1 2) ∧ s.chk.crcsState = 1 ∧
    s.chk.scan = some ⟨.host, 0, 4⟩ ∧ s.chk.waiting = [] :=
  ⟨chk (on .standby) fun c => { c with crcsState := 1, scan := some ⟨.host, 0, 4⟩ }, by unfold Safety.accepts Safety.taken; decide +kernel⟩

theorem witness_SurfaceOrders_close :
    Safety.accepts (surfaceIn 1 .opened []) (Safety.writeMsg can2 0x2311 K.surfCmd (u8 1)) ∧ (surfaceIn 1 .opened []).inUse 1 = false ∧
    ((surfaceIn 1 .opened []).surface 1).phase = .opened ∧ (surfaceIn 1 .opened []).waitsFor 1 = false ∧
    (surfaceIn 1 .opened []).surfPar 1 K.surfVerify = 0 ∧ (surfaceIn 1 .opened []).surf.surf.length = 64 ∧
    Safety.accepts (surfaceIn 1 .opened []) (Safety.writeMsg can2 0x2311 K.surfCmd (u8 2)) ∧
    (surfaceIn 1 .opened []).surfPar 1 K.surfSize ≠ 0 := by
  unfold Safety.accepts Safety.taken; decide +kernel

theorem witness_SurfaceOrders_held : ∃ s : State, Safety.accepts s (Safety.writeMsg can2 0x2311 K.surfCmd (u8 1)) ∧ s.inUse 1 = true ∧
    s.queueBytes < 32768 ∧ s.pwr.comp = true ∧ s.waitsFor 1 = false :=
  ⟨tim (surfaceIn 1 .opened []) fun t => { t with work := some { frame .statistics 0 with surfaces := [1] } }, by
    unfold Safety.accepts Safety.taken; decide +kernel⟩

theorem witness_SurfaceOrders_geometry :
    Safety.accepts (raisedTo (surfaceIn 1 .opened []) .integrator) (Safety.writeMsg can2 0x2311 K.surfWidth (u16 32)) ∧
    leValue (u16 32) ≠ (surfaceIn 1 .opened []).surfPar 1 K.surfWidth ∧ K.surfWidth ≤ K.surfVerify := by
  unfold Safety.accepts Safety.taken; decide +kernel

/-- GZ_STORE is due, with what copy A holds. -/
def storeDue (a : FlashCopy (Sealed (List Nat))) (aDone failed : List Nat) : State :=
  { on .lit with flash := { (on .lit).flash with gzStore := ⟨a, .erased⟩, due := [1], aDone := aDone, failedOnce := failed } }

theorem witness_FlashCopies :
    (storeDue .erased [] []).up = true ∧ 1 ∈ (storeDue .erased [] []).flash.due ∧ 1 ∉ (storeDue .erased [] []).flash.aDone ∧
    2 ∉ (storeDue .erased [] []).flash.failedOnce ∧ 2 ∈ (storeDue .erased [] [2]).flash.failedOnce ∧
    (storeDue .erased [] []).flashWorks = true ∧ (on .park).flashWorks = false ∧
    1 ∈ (storeDue (.good (.of gzValue [16384])) [1] []).flash.aDone ∧ (Sealed.of gzValue [16384]).check = gzValue [16384] ∧
    (⟨[16384], 0⟩ : Sealed (List Nat)).check ≠ gzValue [16384] ∧
    recordCode .gzStore ∉ (on .lit).flash.due ∧ (on .lit).copyStale .gzStore .a = false ∧
    ({ on .lit with flash := { (on .lit).flash with gzStore := ⟨.good ⟨[1], 0⟩, .bad⟩ } }).flash.gzStore = ⟨.good ⟨[1], 0⟩, .bad⟩ := by
  decide +kernel

/-! ### Witnesses: Grenz requests -/

theorem witness_WritesAreCheckedInOrder_absent :
    Safety.taken (on .standby) (Safety.writeMsg can2 0x7000 1 [0]) ∧ objFind 0x7000 1 = none ∧
    (on .standby).writeError .user 0x7000 1 0 [0] false = some (1, 0) := by unfold Safety.taken; decide +kernel

theorem witness_WritesAreCheckedInOrder_object :
    (∃ o, objFind 0x2000 1 = some o ∧ o.acc = .ro) ∧ (∃ o, objFind 0x2800 4 = some o ∧ o.acc ≠ .ro ∧ Level.user.num < o.lvl.num) ∧
    (∃ o, objFind 0x1100 4 = some o ∧ o.acc ≠ .ro ∧ o.typeError ((on .standby).offsetSize 0x1100 o) 1 false = some 2) ∧
    (∃ o, objFind 0x2800 4 = some o ∧ o.typeError ((on .standby).offsetSize 0x2800 o) 1 false = none ∧
      (on .standby).rangeOk 0x2800 4 0 o [155] = false ∧ (on .standby).rangeOk 0x2800 4 0 o [150] = true) := by
  refine ⟨⟨_, rfl, ?_⟩, ⟨_, rfl, ?_⟩, ⟨_, rfl, ?_⟩, ⟨_, rfl, ?_⟩⟩ <;> decide +kernel

theorem witness_ReadsAndWrites :
    Safety.taken (on .standby) ⟨can2, 0x01, 0x7000, 1, 0, []⟩ ∧ objFind 0x7000 1 = none ∧
    Safety.taken (on .standby) ⟨can2, 0x01, 0x1100, 4, 0, []⟩ ∧ domainOf 0x1100 4 = none ∧ domainOf 0x2000 9 = none := by
  unfold Safety.taken; decide +kernel

theorem witness_ReadsAndWrites_objects :
    (∃ o, objFind 0x2000 9 = some o ∧ o.acc = .wo) ∧ (∃ o, objFind 0x1100 4 = some o ∧ o.acc ≠ .wo ∧ o.isDomain = false) ∧
    (∃ o, objFind 0x3003 1 = some o ∧ o.acc ≠ .wo ∧ o.isDomain = true ∧ domainOf 0x2900 3 = none) := by
  refine ⟨⟨_, rfl, ?_⟩, ⟨_, rfl, ?_⟩, ⟨_, rfl, ?_⟩⟩ <;> decide +kernel

theorem witness_ReadsAndWrites_powered :
    domainOf (K.calGp / 256) (K.calGp % 256) = some .comp ∧ (on .lit).powered .comp = true := by decide +kernel

theorem witness_ReadsAndWrites_scalar : ∃ o, objFind (K.hostLoss / 256) (K.hostLoss % 256) = some o ∧ o.ty ≠ .dom ∧ o.ty ≠ .str ∧
    blockBase (K.hostLoss / 256) ≠ 0x2310 ∧ blockBase (K.hostLoss / 256) ≠ 0x2440 ∧ blockBase (K.hostLoss / 256) ≠ 0x4010 ∧
    domainOf (K.hostLoss / 256) (K.hostLoss % 256) = none := ⟨_, rfl, by decide +kernel⟩

theorem witness_ReadsAndWrites_write :
    (K.hostLoss, 2) ∈ [(K.hbPeriod, 2), (K.hostLoss, 2), (K.bgLevel, 2), (K.headroom, 2), (K.nearLimit, 1)] ∧
    Safety.accepts (raisedTo (on .standby) .integrator) (Safety.order can2 K.hostLoss 2 250) ∧ isRwp K.hostLoss = true ∧
    250 ≠ (on .standby).par K.hostLoss ∧ Safety.accepts (raisedTo (on .standby) .integrator) (Safety.order can2 K.bgLevel 2 65535) := by
  unfold Safety.accepts Safety.taken; decide +kernel

/-- A block transfer of the SVC tool. -/
def transfer (isWrite : Bool) (total done : Nat) (data block : List Byte) (failed : Bool) : Transfer :=
  ⟨svcReq, 0x2900, 3, isWrite, 0, total, data, done, 32, 1, 1, block, false, failed, none⟩

/-- It is in progress. -/
def moving1 (t : Transfer) : State := { on .standby with can := { (on .standby).can with transfer := some t } }

theorem witness_BlockTransfers_open :
    svcReq.via ≠ .vexlink ∧ Safety.taken (on .standby) ⟨svcReq, 0x10, 0x2900, 3, 0, u32 0 ++ u32 68 ++ u8 32 ++ [0, 0, 0]⟩ ∧
    (on .standby).can.transfer = none ∧ (∃ o, objFind 0x2900 3 = some o ∧ o.acc ≠ .wo ∧ o.isDomain = true) ∧ domainOf 0x2900 3 = none ∧
    objKey 0x2900 3 ≠ K.logRecordsObj ∧ 0 + 68 ≤ (on .standby).domainSize .svc 0x2900 3 := by
  refine ⟨by decide, ?_, rfl, ⟨_, rfl, ?_⟩, ?_⟩ <;> try unfold Safety.taken
  all_goals decide +kernel

theorem witness_BlockTransfers_write :
    Safety.taken (raisedTo (on .standby) .service) ⟨svcReq, 0x11, 0x2A00, 0x05, 0, u32 0 ++ u32 256⟩ ∧
    (raisedTo (on .standby) .service).initError .service 0x2A00 0x05 0 256 = none := by unfold Safety.taken; decide +kernel

theorem witness_BlockTransfers_frames :
    Safety.frameOf (moving1 (transfer true 60 0 [] [] false)) svcReq 0x12 (transfer true 60 0 [] [] false) ∧
    Safety.frameOf (moving1 (transfer true 60 0 [] [] false)) svcReq 0x13 (transfer true 60 0 [] [] false) ∧
    Safety.frameOf (moving1 (transfer false 60 0 [] [] false)) svcReq 0x14 (transfer false 60 0 [] [] false) ∧
    Safety.frameOf (moving1 (transfer false 60 0 [] [] false)) svcReq 0x1F (transfer false 60 0 [] [] false) ∧
    (List.replicate 56 (0 : Byte)).length = min 56 (60 - 0 - 0) ∧ (false = (60 - 0 - 0 == 56)) := by unfold Safety.frameOf; decide +kernel

theorem witness_BlockTransfers_level :
    (on .standby).reaches ⟨.can, 13, 7⟩ = true ∧ (on .standby).rally.phase ≠ .handover ∧ opAllowed ⟨.can, 13, 7⟩ 0x12 = true ∧
    (on .standby).classLevelLow ⟨⟨.can, 13, 7⟩, 0x12, 0, 0, 0, []⟩ = true ∧ opAllowed ⟨.can, 13, 7⟩ 0x1F = true := by decide +kernel

theorem witness_BlockTransfers_check :
    (transfer true 60 0 [] [1, 2] false).result 1 0 ≠ 0 ∧
    (transfer true 1793 0 [] (List.replicate 1792 1) false).result 1 (blockCheck 0x2900 3 1 (List.replicate 1792 1)) = 0 ∧
    blockBase 0x2900 ≠ 0x2310 ∧ 0 + (List.replicate 1792 (1 : Byte)).length < 1793 ∧
    (transfer true 60 0 [] [] true).failedOnce = true ∧ (transfer true 60 0 [] [] true).result 0 0 ≠ 0 ∧
    (transfer false 60 60 [] [] false).total ≤ 60 + (transfer false 60 60 [] [] false).chunk.length ∧
    0 + (transfer false 2000 0 (List.replicate 2000 7) [] false).chunk.length < 2000 := by decide +kernel

theorem witness_CarriedRequests_log :
    Safety.taken (on .standby) ⟨svcReq, 0x10, K.logRecordsObj / 256, K.logRecordsObj % 256, 0, u32 0 ++ u32 0 ++ u8 32 ++ [0, 0, 0]⟩ ∧
    (on .standby).domainBytes .svc (K.logRecordsObj / 256) (K.logRecordsObj % 256) = [] ∧
    ({ on .standby with flash := { (on .standby).flash with log := [(0, List.replicate 64 1)], logNext := 1 } }).domainBytes .svc
      (K.logRecordsObj / 256) (K.logRecordsObj % 256) ≠ [] := by unfold Safety.taken; decide +kernel

theorem witness_CarriedRequests_waiting : ∃ s : State, ∃ m, s.surf.waiting = [⟨.close 1, 0, .request m⟩] ∧ reqChannel m.req = reqChannel can2 ∧
    s.can.transfer = none :=
  ⟨busy [⟨.close 1, 0, .request (Safety.writeMsg can2 0x2311 K.surfCmd (u8 1))⟩] [], _, rfl, rfl, rfl⟩

theorem witness_CarriedRequests_block : ∃ (s : State) (t : Transfer), s.can.transfer = some t ∧ t.isWrite = true ∧
    reqChannel t.req = reqChannel svcReq ∧ s.blockWaits = true ∧ ∀ w ∈ s.surf.waiting, w.asks svcReq = false :=
  ⟨{ moving1 (transfer true 60 0 [] [] false) with surf := { (on .standby).surf with waiting := [⟨.bytes 1 0 [] false none (0, 0), 0, .block⟩] } },
    transfer true 60 0 [] [] false, by decide +kernel⟩

theorem witness_CarriedRequests_none : (∀ w ∈ (on .lit).surf.waiting, w.asks can2 = false) ∧ (on .lit).blockWaits = false ∧
    (on .lit).can.transfer = none := by decide +kernel

theorem witness_CarriedRequests_param :
    Safety.consumes (member .lit) (packet 5 0x30 0 9 0 (pad4 (grenzBytes 0x01 255 0x1100 4 0 0 0 []))) 0x30 ∧
    Safety.consumes (member .lit) (packet 5 0x30 0 9 0 (pad4 (grenzBytes 0x02 0 0x1100 4 0 2 2 [1, 0]))) 0x30 := by
  unfold Safety.consumes; decide +kernel

/-- An SVC frame of a type with a payload. -/
def svc (type : Nat) (payload : List Byte) : SvcFrame :=
  let body := u8 0 ++ u8 0 ++ u8 type ++ u8 1 ++ u16 payload.length ++ payload
  { body := body, fcrc := crc32c body }

theorem witness_CarriedRequests_svc :
    Safety.svcTakes (on .standby) (svc 0x01 (grenzBytes 0x01 7 0x1100 4 0 0 0 [])) 0x01 ∧
    SvcFrame.payload (svc 0x01 (grenzBytes 0x01 7 0x1100 4 0 0 0 [])) = grenzBytes 0x01 7 0x1100 4 0 0 0 [] ∧
    Safety.svcTakes (on .standby) (svc 0x01 (grenzBytes 0x02 7 0x1100 4 0 2 0 [1, 0])) 0x01 ∧
    SvcFrame.payload (svc 0x01 (grenzBytes 0x02 7 0x1100 4 0 2 0 [1, 0])) = grenzBytes 0x02 7 0x1100 4 0 2 0 [1, 0] := by
  unfold Safety.svcTakes; decide +kernel

/-! ### Witnesses: access levels -/

theorem witness_SessionsAreKeyed_request :
    Safety.taken (on .standby) ⟨can2, 0x20, 0, 0, 0, u8 1 ++ [0, 0, 0]⟩ ∧ (on .standby).mgmt.lockUntil ≤ (on .standby).now ∧
    ({ on .standby with mgmt := { (on .standby).mgmt with lockUntil := 1 } }).now < 1 := by unfold Safety.taken; decide +kernel

/-- A challenge is outstanding on CAN, after a number of mismatches. -/
def challenged (n : Nat) : State :=
  { on .standby with mgmt := { (on .standby).mgmt with
      mismatches := n, can := { (on .standby).mgmt.can with challenge := some (1, List.replicate 16 0) } } }

theorem witness_SessionsAreKeyed_answer :
    Safety.taken (challenged 2) ⟨can2, 0x21, 0, 0, 0, u8 1 ++ [0, 0, 0] ++ List.replicate 16 0⟩ ∧
    ((challenged 2).access can2.via).challenge = some (1, List.replicate 16 0) ∧ ((on .standby).access can2.via).challenge = none ∧
    (challenged 2).mgmt.mismatches + 1 = 3 ∧ (challenged 1).mgmt.mismatches + 1 < 3 ∧ (1 ≠ 2) := by unfold Safety.taken; decide +kernel

theorem witness_SessionsAreKeyed_match : ∃ (s : State) (c response : List Byte), (s.access can2.via).challenge = some (1, c) ∧
    aes256 (s.keyOf 1) c = response := ⟨challenged 0, List.replicate 16 0, _, rfl, rfl⟩

theorem witness_LevelsReturnToUser :
    Safety.taken (raisedTo (on .standby) .integrator) ⟨can2, 0x22, 0, 0, 0, []⟩ ∧
    ((raisedTo (on .standby) .integrator).access can2.via).level = .integrator ∧ ((on .standby).access can2.via).level ≠ .integrator ∧
    (on .standby).up = true ∧ (on .standby).can.busOff = false ∧
    (on .standby).pwr.life ≠ .inReset ∧ (on .standby).pwr.dev ≠ .park := by
  unfold Safety.taken; decide +kernel

theorem witness_LevelsReturnToUser_resets : ∃ t, exec (.powerOnReset false) (on .standby) = .next t ∧ t.pwr.life = .inReset := ⟨_, rfl, rfl⟩

theorem witness_LevelsReturnToUser_park : ∃ t, exec (.sleepGo noWake) asleepSoon = .next t ∧ t.pwr.dev = .park := ⟨_, rfl, rfl⟩

/-! ### Witnesses: the CAN port -/

/-- A CAN record changed. -/
def canSet (s : State) (f : Can → Can) : State := { s with can := f s.can }

theorem witness_CanFramesLeave :
    (on .lit).up = true ∧ (on .lit).can.busOff = false ∧ (on .lit).comp.campionOn = false ∧ (on .lit).can.stageCommit = none ∧
    (canSet (on .standby) fun c => { c with stageCommit := some (plain 0 false) }).can.stageCommit = some (plain 0 false) ∧
    (on .standby).pwr.dev ≠ .ready ∧ (on .standby).pwr.dev ≠ .lit ∧ (on .standby).pwr.dev ≠ .fallback ∧ (on .lit).mayCompose = true ∧
    (on .lit).tim.work = none ∧ (on .lit).tim.pend = none ∧ (plain 0 false).campion = false ∧ (on .lit).can.muted = false ∧
    63 ≠ (on .lit).par K.syncGroup ∧ (on .lit).rally.hbHeld = none ∧ (on .lit).can.evQueue = [] ∧
    (canSet (on .lit) fun c => { c with evQueue := [List.replicate 64 0] }).can.evQueue = [List.replicate 64 0] := by decide +kernel

theorem witness_CanFramesLeave_campion : (canSet { on .lit with comp := { (on .lit).comp with campionOn := true } } id).comp.campionOn = true ∧
    ({ on .lit with comp := { (on .lit).comp with campionOn := true } }).syncExternal = false := by decide +kernel

theorem witness_CanFramesLeave_bus :
    (∀ e ∈ [CanBusEvent.rxError, .txError], e = .rxError ∨ e = .txError) ∧
    (on .lit).can.recErr + [CanBusEvent.rxError, .txError].count .rxError ≤ 65535 ∧
    (on .lit).can.tecErr + 8 * [CanBusEvent.rxError, .txError].count .txError ≤ 255 ∧
    255 < (canSet (on .lit) fun c => { c with tecErr := 248 }).can.tecErr + 8 ∧ (on .lit).canPassive = false ∧
    (canSet (on .lit) fun c => { c with tecErr := 128 }).canPassive = true := by decide +kernel

/-- A well-formed frame of class 2 that asks for what its class does not carry. -/
def misplacedFrame : CanFrame := ⟨0x080, false, false, true, [0x30, 7, 0, 0, 0, 0, 0, 0]⟩

theorem witness_CanControllerAndAddress_misplaced :
    (on .lit).concerns misplacedFrame = true ∧ malformedBytes misplacedFrame = false ∧ CanFrame.misplaced misplacedFrame = true ∧
    (on .lit).reaches (CanFrame.message misplacedFrame).req = true ∧ (on .lit).rally.phase ≠ .handover ∧
    (on .lit).storedAnswer (CanFrame.message misplacedFrame) = none ∧ (on .lit).inProgress (CanFrame.message misplacedFrame).req = false ∧
    opAllowed (CanFrame.message misplacedFrame).req (CanFrame.message misplacedFrame).op = false ∧
    CanFrame.misplaced { misplacedFrame with id := 0x280 } = true ∧
    (on .lit).classLevelLow (CanFrame.message { misplacedFrame with id := 0x280 }) = false := by decide +kernel

/-- A frame that is too short to be a Grenz frame, to address 0 in class 2. -/
def shortFrame : CanFrame := ⟨0x080, false, false, false, []⟩

theorem witness_CanControllerAndAddress :
    (on .lit).up = true ∧ (on .lit).can.busOff = false ∧ ((on .lit).can.recoveredAt.filter fun t => decide ((on .lit).now < t + 60000000)).length < 3 ∧
    (canSet (on .lit) fun c => { c with recoveredAt := [0, 0, 0] }).can.recoveredAt.length = 3 ∧
    (canSet (on .lit) fun c => { c with recovering := true }).can.recovering = true ∧ (on .lit).can.recovering = false ∧
    0x3C0 ≤ (⟨0x3C0, false, false, true, []⟩ : CanFrame).id ∧ shortFrame.fd = false ∧ shortFrame.id < 0x3C0 ∧
    (on .lit).concerns shortFrame = true ∧ malformedBytes ⟨0x080, false, false, true, [1, 0, 0, 0, 0, 0, 0, 0]⟩ = false ∧
    384 / 64 ∈ [0, 6, 7, 8, 9, 11, 12] ∧ 384 % 64 = (on .lit).can.addr ∧ (on .lit).can.muted = false ∧
    (canSet (on .lit) fun c => { c with muted := true }).can.muted = true ∧
    (canSet (on .lit) fun c => { c with newAddr := some 63 }).can.newAddr = some 63 ∧ (on .lit).requestsWaiting = [] ∧
    (busy [⟨.close 1, 0, .request (Safety.writeMsg can2 0x2311 K.surfCmd (u8 1))⟩] []).requestsWaiting ≠ [] ∧
    (on .lit).can.transfer = none := by decide +kernel

theorem witness_CanControllerAndAddress_recover :
    Safety.accepts (raisedTo (on .standby) .service) (Safety.order svcReq K.canCmd 1 1) := by
  unfold Safety.accepts Safety.taken; decide +kernel

/-! ### Witnesses: staging and updates -/

/-- SERVICE level with Rally in a phase. -/
def serviced1 (p : RallyPhase) (f : Rally → Rally) : State :=
  { raisedTo (on .standby) .service with rally := f { Rally.reset with phase := p } }

/-- An image header with its tag table for one chunk. -/
def imageHeader (size rollback : Nat) : List Byte :=
  padTo 256 (u32 0x594C4152 ++ u16 1 ++ u16 256 ++ u32 7 ++ u32 rollback ++ u32 size ++ u16 1) ++ List.replicate 16 0

theorem witness_ImagesAreStaged_begin :
    Safety.svcTakes (serviced1 .idle id) (svc 0x10 (imageHeader 100 3)) 0x10 ∧ (serviced1 .idle id).mgmt.svc.level = .service ∧
    (serviced1 .idle id).rally.phase = .idle ∧ headerOk [1] = false ∧ headerOk (SvcFrame.payload (svc 0x10 (imageHeader 65536 3))) = true ∧
    field (imageHeader 100 3) 12 4 < 4 ∧ (serviced1 .idle id).flash.rollback ≤ field (imageHeader 100 3) 12 4 ∧
    (on .standby).mgmt.svc.level ≠ .service ∧ (serviced1 .probation id).rally.phase ≠ .staged := by
  unfold Safety.svcTakes; decide +kernel

/-- A transfer of one chunk of 2,000 bytes is open, with what has come. -/
def staging (chunks : List (List Byte)) (data : List Byte) (part : Nat) : State :=
  serviced1 .idle fun r => { r with
    transfer := true, newHeader := (imageHeader 2000 3).take 256, newTags := [List.replicate 16 0], newChunks := chunks,
    chunkData := data, part := part }

/-- Part `k` of chunk 0. -/
def part (k n : Nat) : List Byte := u16 0 ++ u8 k ++ u8 0 ++ List.replicate n 9

theorem witness_ImagesAreStaged_data :
    Safety.svcTakes (staging [] [] 0) (svc 0x11 (part 0 1024)) 0x11 ∧ (staging [] [] 0).rally.transfer = true ∧
    (staging [] [] 0).rally.partFits (part 0 1024) = true ∧ (staging [] [] 0).rally.partFits (part 1 1024) = false ∧
    ([] ++ (part 0 1024).drop 4).length < chunkSize (field (staging [] [] 0).rally.newHeader 16 4) 0 ∧
    (staging [] (List.replicate 1024 9) 1).rally.partFits (part 1 976) = true ∧
    chunkSize (field (staging [] [] 0).rally.newHeader 16 4) 0 ≤ (List.replicate 1024 (9 : Byte) ++ (part 1 976).drop 4).length := by
  unfold Safety.svcTakes; decide +kernel

theorem witness_ImagesAreStaged_end :
    Safety.svcTakes (staging [] [] 0) (svc 0x12 []) 0x12 ∧ Safety.svcTakes (staging [] [] 0) (svc 0x1F []) 0x1F ∧
    (staging [] [] 0).rally.newChunks.length < (staging [] [] 0).rally.newTags.length ∧
    (staging [[1]] [] 0).rally.newTags.length ≤ (staging [[1]] [] 0).rally.newChunks.length := by unfold Safety.svcTakes; decide +kernel

/-- An image is staged in slot B. -/
def imageStaged (f : Rally → Rally) : State :=
  serviced1 .staged fun r => f { r with slotB := { Slot.reset with state := .staged, header := (imageHeader 100 3).take 256, chunks := [[1]] } }

theorem witness_UpdatesAreCommanded_states : ((imageStaged id).slotOfBank true).state = .staged ∧
    ((imageStaged fun r => { r with slotB := { Slot.reset with state := .active } }).slotOfBank true).state = .active ∧
    (imageStaged id).rally.bankB = false := by decide +kernel

theorem witness_UpdatesAreCommanded :
    Safety.accepts (imageStaged id) (Safety.order svcReq K.updateCmd 1 1) ∧ (imageStaged id).rally.loaded = false ∧
    Safety.accepts (imageStaged id) (Safety.order svcReq K.updateCmd 1 2) ∧ Safety.accepts (imageStaged id) (Safety.order svcReq K.updateCmd 1 3) ∧
    (imageStaged fun r => { r with loading := true }).rally.loading = true ∧ (imageStaged id).rally.loading = false := by
  unfold Safety.accepts Safety.taken; decide +kernel

theorem witness_BanksAreHandedOver :
    (imageStaged fun r => { r with loaded := true }).rally.loaded = true ∧ (imageStaged id).rally.phase = .staged ∧
    (imageStaged id).rally.loaded = false ∧ (imageStaged id).rally.heldFallback = [] ∧ (imageStaged id).flt.renderHeld = false ∧
    (imageStaged id).rally.enumLatched = none ∧ (imageStaged fun r => { r with phase := .handover }).rally.phase = .handover ∧
    (imageStaged id).pwr.held.contains .rallyRevert = false ∧ (imageStaged id).rally.coldRun = false ∧ HandoverVerdict.seal ≠ .accepted ∧
    (imageStaged fun r => { r with phase := .probation, bankB := true }).rally.phase = .probation ∧ (imageStaged id).rally.phase ≠ .probation ∧
    (imageStaged fun r => { r with phase := .handover, coldRun := true }).rally.coldRun = true := by decide +kernel

/-- A hand-over runs with a record of version `v` for the staged image. -/
def sealedRecord (v : Nat) : State :=
  imageStaged fun r => { r with
    phase := .handover, topA := sealed (u32 0x52454448 ++ u16 v ++ u16 0 ++ u32 36 ++ u32 6 ++ u32 7 ++ List.replicate 12 0) }

theorem witness_BanksAreHandedOver_record :
    ((sealedRecord 0).slotOfBank (!(sealedRecord 0).rally.bankB)).readsRecord ((sealedRecord 0).rally.recordOf false) = true ∧
    ((sealedRecord 1).slotOfBank (!(sealedRecord 1).rally.bankB)).readsRecord ((sealedRecord 1).rally.recordOf false) = false ∧
    (sealedRecord 0).rally.bankB = false ∧ (sealedRecord 0).recordVerdict = .accepted ∧ (sealedRecord 1).recordVerdict = .version ∧
    recordSealHolds [1, 2, 3, 4, 5] = false ∧ (sealedRecord 0).rally.heldFallback = [] ∧
    (sealedRecord 0).rally.coldRun = false ∧ (sealedRecord 0).pwr.held.contains .rallyRevert = false := by decide +kernel

theorem witness_BanksAreHandedOver_persist (q : PersistRecord) :
    ({ Flash.reset with persist := ⟨.good (.of persistValue q), .erased⟩ }).persisted.newest PersistRecord.gen = some q :=
  sealed_newest persistValue PersistRecord.gen q

/-- The old bank's image has a version of its own, and its record is from version `v`. -/
def ownRecord (v : Nat) : State :=
  imageStaged fun r => { r with
    slotA := { Slot.reset with state := .active, header := (imageHeader 100 3).take 256 }
    topA := sealed (u32 0x52454448 ++ u16 0 ++ u16 0 ++ u32 36 ++ u32 v ++ u32 7 ++ List.replicate 12 0) }

theorem witness_BanksAreHandedOver_own : (ownRecord 7).ownRecordHolds false = true ∧ (ownRecord 6).ownRecordHolds false = false ∧
    (ownRecord 7).blockWaits = false := by decide +kernel

theorem witness_BanksAreHandedOver_revert : ∃ s : State, s.rally.phase = .handover ∧ s.pwr.held.contains .rallyRevert = true ∧
    s.rally.heldFallback = [] ∧ s.flt.renderHeld = false ∧ s.rally.enumLatched = none ∧ s.rally.reason ≠ 6 ∧ s.rally.slotB.state = .staged :=
  ⟨{ imageStaged fun r => { r with phase := .handover } with pwr := { (on .standby).pwr with held := [.rallyRevert] } }, by decide +kernel⟩

/-! ### Witnesses: orders -/

/-- A dictionary record changed. -/
def dict (s : State) (f : Dict → Dict) : State := { s with dict := f s.dict }

theorem witness_PersistenceAndLog :
    Safety.accepts (raisedTo (on .standby) .service) (Safety.order can2 K.persistCmd 1 1) ∧ (on .standby).dict.committing = false ∧
    (on .standby).dict.restoring = false ∧ (on .standby).dict.lastCommit = none ∧
    (dict (raisedTo (on .standby) .service) fun d => { d with lastCommit := some 0 }).now < 0 + 2000000 ∧
    Safety.accepts (raisedTo (on .standby) .service) (Safety.order can2 K.persistCmd 1 2) ∧
    Safety.accepts (raisedTo (on .standby) .service) (Safety.order can2 K.eventClear 1 255) ∧
    Safety.accepts (raisedTo (on .standby) .service) (Safety.order can2 K.logClear 1 1) ∧ (on .standby).up = true ∧
    (dict (on .standby) fun d => { d with dirty := [K.canAddr] }).dict.dirty ≠ [] ∧ (on .standby).dict.dirty = [] ∧
    (on .standby).dict.storeDue = false := by unfold Safety.accepts Safety.taken; decide +kernel

theorem witness_PersistenceAndLog_write : ∃ s : State, s.up = true ∧ s.rally.phase ≠ .handover ∧ s.mgmt.dropsToNote = 0 ∧
    s.flash.logNext + s.mgmt.logQueue.length < 2 ^ 32 ∧ (∀ k, k < s.mgmt.logQueue.length → (s.flash.logNext + k) % 1024 ≠ 0) ∧
    s.mgmt.logQueue ≠ [] :=
  ⟨{ on .lit with flash := { (on .lit).flash with logNext := 1022 }, mgmt := { (on .lit).mgmt with logQueue := [List.replicate 64 0] } }, by
    decide +kernel⟩

theorem witness_PersistenceAndLog_flash :
    (on .standby).flashWorks = true ∧ (on .park).flashWorks = false ∧
    (dict (on .standby) fun d => { d with committing := true }).dict.committing = true ∧
    ({ on .lit with mgmt := { (on .lit).mgmt with clearRecord := some (List.replicate 64 0) } }).mgmt.clearRecord.toList ≠ [] ∧
    (on .lit).up = true ∧ State.reset.up = false := by decide +kernel

theorem witness_FaultsAreReleased :
    (Safety.accepts (raisedTo (on .lit) .service) (Safety.order can2 K.faultAck 1 1) ∧ FbCause.reaction ∉ (on .lit).flt.fbCauses ∧
      Safety.accepts (raisedTo (on .lit) .service) (Safety.order can2 K.zoneFaultClear 2 511)) ∧ Safety.notFailed (raisedTo (on .lit) .service) :=
  ⟨by unfold Safety.accepts Safety.taken; decide +kernel, by decide +kernel, no_failed_bits _ (by decide +kernel)⟩

theorem witness_FaultsAreReleased_lit :
    (Safety.accepts (host (fallen [.thermal]) true) (Safety.order can2 K.stateRequest 1 3) ∧ (host (fallen [.thermal]) true).pwr.dev = .fallback ∧
      (∀ c ∈ (host (fallen [.thermal]) true).flt.fbCauses, c = .thermal)) ∧ Safety.notFailed (host (fallen [.thermal]) true) :=
  ⟨by unfold Safety.accepts Safety.taken; decide +kernel, by decide +kernel, no_failed_bits _ (by decide +kernel)⟩

theorem witness_LightOrders :
    Safety.accepts (raisedTo (on .lit) .service) (Safety.order can2 K.reflexEnable 1 1) ∧
    Safety.accepts (raisedTo (on .lit) .service) (Safety.order can2 K.reflexEnable 1 0) ∧
    Safety.accepts (raisedTo (on .lit) .service) (Safety.order can2 K.gainSource 1 2) ∧
    Safety.accepts (raisedTo (on .lit) .service) (Safety.order can2 K.senseInterval 2 0) ∧
    Safety.accepts (raisedTo (on .lit) .service) (Safety.order can2 K.senseInterval 2 64) ∧ (on .lit).lighting = true ∧
    Safety.accepts (raisedTo (on .lit) .service) (Safety.order can2 K.auxEnable 1 3) ∧ (on .lit).pwr.aux = true := by
  unfold Safety.accepts Safety.taken; decide +kernel

theorem witness_LightOrders_mask :
    Safety.taken (raisedTo (on .lit) .service)
      ⟨svcReq, 0x11, K.zoneBlankMask / 256, K.zoneBlankMask % 256, 0, u32 0 ++ u32 (List.replicate 64 (255 : Byte)).length⟩ ∧
    (on .lit).can.transfer = none ∧
    (raisedTo (on .lit) .service).initError .service (K.zoneBlankMask / 256) (K.zoneBlankMask % 256) 0 64 = none ∧
    (raisedTo (on .lit) .service).writeError .service (K.zoneBlankMask / 256) (K.zoneBlankMask % 256) 0 (List.replicate 64 255) true = none := by
  unfold Safety.taken; decide +kernel

theorem witness_LightOrders_capture : ∃ s : State, Safety.accepts s (Safety.order can2 K.capCmd 1 1) ∧ s.par K.injTarget = 0 :=
  ⟨raisedTo (on .lit) .service, by unfold Safety.accepts Safety.taken; decide +kernel⟩

theorem witness_LightOrders_inject : ∃ s : State, Safety.accepts s (Safety.order can2 K.capCmd 1 1) ∧ s.par K.injTarget ≠ 0 :=
  ⟨(raisedTo (on .lit) .integrator).writePar K.injTarget 1, by unfold Safety.accepts Safety.taken; decide +kernel⟩

theorem witness_LightOrders_target : ∃ s : State, Safety.accepts s (Safety.order can2 K.injTarget 1 0) ∧
    Safety.accepts s (Safety.order can2 K.injTarget 1 1) :=
  ⟨raisedTo (on .lit) .integrator, by unfold Safety.accepts Safety.taken; decide +kernel⟩

/-! ### Witnesses: Campion -/

/-- Campion is on. -/
def campion (d : DevState) : State :=
  { (raisedTo (on d) .service).writePar K.compatEnable 1 with comp := { (on d).comp with campionOn := true } }

theorem witness_CampionAndStagedCommits_enable :
    Safety.accepts (raisedTo (on .lit) .service) (Safety.order can2 K.compatEnable 1 1) ∧ (on .lit).comp.campionOn = false ∧
    (on .lit).tim.toBind = [] ∧ (on .lit).mayCompose = true ∧ (on .lit).tim.work = none ∧ (on .lit).tim.pend = none ∧
    Safety.accepts (campion .lit) (Safety.order can2 K.compatEnable 1 0) ∧ (campion .lit).comp.campionOn = true ∧
    Safety.accepts (campion .lit) (Safety.order can2 K.compatEnable 1 1) := by unfold Safety.accepts Safety.taken; decide +kernel

theorem witness_CampionAndStagedCommits_mode :
    Safety.accepts (campion .lit) (Safety.order can2 K.ph16kMode 1 0) ∧ bitOf 0 6 = false ∧ bitOf 0x40 6 = true ∧
    Safety.accepts (campion .lit) (Safety.order can2 K.ph16kMode 1 0x40) := by unfold Safety.accepts Safety.taken; decide +kernel

theorem witness_CampionAndStagedCommits_map :
    Safety.taken (raisedTo (on .lit) .service) ⟨svcReq, 0x11, K.ph16kMap / 256, K.ph16kMap % 256, 0, u32 0 ++ u32 2⟩ ∧
    (raisedTo (on .lit) .service).initError .service (K.ph16kMap / 256) (K.ph16kMap % 256) 0 2 = none ∧
    (raisedTo (on .lit) .service).writeError .service (K.ph16kMap / 256) (K.ph16kMap % 256) 0 [0, 0] true = none := by
  unfold Safety.taken; decide +kernel

/-- A COMMIT_STAGE payload with one box record that enables slot `n`. -/
def oneBox (n : Nat) : List Byte := [0, 1, 0, 0] ++ u8 n ++ u8 1 ++ u16 0 ++ u16 0 ++ u16 0 ++ u16 7 ++ u16 7

theorem witness_CampionAndStagedCommits_stage :
    Safety.accepts (on .lit) (Safety.writeMsg can2 (K.commitStage / 256) (K.commitStage % 256) [0, 0, 0, 0]) ∧
    (∃ r, parseCommit [0, 0, 0, 0] = .ok r) ∧
    (on .lit).writeError .user (K.commitStage / 256) (K.commitStage % 256) 0 [0xFF, 0, 0, 0] false = some (0x0B, 0) ∧
    Safety.taken (on .lit) (Safety.writeMsg can2 (K.commitStage / 256) (K.commitStage % 256) [0xFF, 0, 0, 0]) := by
  refine ⟨?_, ⟨_, rfl⟩, ?_, ?_⟩ <;> (try unfold Safety.accepts) <;> (try unfold Safety.taken) <;> decide +kernel

theorem witness_CampionAndStagedCommits_load : (on .lit).selectImage ≠ none ∧
    ({ on .lit with flash := { (on .lit).flash with fbImages := [], surface0 := ⟨.bad, .bad⟩ } }).selectImage = none := by decide +kernel

/-! ### Witnesses: the auxiliary driver -/

/-- The auxiliary driver runs. -/
def auxOn (f : Aux → Aux) : State := { on .lit with aux := f { Aux.reset with chain := 1 } }

theorem witness_AuxFramesRun :
    State.reset.pwr.aux = false ∧ (auxOn id).pwr.aux = true ∧ (auxOn id).aux.shifting = false ∧ (auxOn id).aux.complete = false ∧
    (auxOn fun a => { a with shifting := true }).aux.shifting = true ∧ (on .lit).aux.chain ≠ 1 ∧ (auxOn id).aux.matrixOn = false ∧
    (auxOn fun a => { a with matrixOn := true }).aux.matrixOn = true ∧ (auxOn id).aux.matrixStarts = false ∧
    (auxOn id).aux.withhold = false ∧ (auxOn id).aux.judge = false ∧
    (auxOn fun a => { a with shifting := true, judge := true, kept := some (1, 2) }).aux.kept = some (1, 2) ∧
    (auxOn fun a => { a with complete := true }).aux.complete = true ∧
    (auxOn fun a => { a with complete := true, withhold := true }).aux.withhold = true ∧ (on .lit).aux.chain = 0 := by decide +kernel

theorem witness_AuxFramesRun_late :
    (auxOn fun a => { a with complete := true, doneAt := 99, frameAt := 0, lineTime := 20 }).aux.doneAt + 1 ≤ 0 + 8 * 20 ∧
    0 + 8 * 20 < (auxOn fun a => { a with complete := true, doneAt := 160, frameAt := 0, lineTime := 20 }).aux.doneAt + 1 := by decide +kernel

theorem witness_AuxFramesRun_times :
    (20 * (100 - 5) * element (u16 1379) 0 + 32767) / 65535 = 40 ∧ (20 * (100 - 5) * element (u16 1362) 0 + 32767) / 65535 = 39 := by
  decide +kernel

theorem witness_AuxFramesRun_check : streamCheck 2 [1] ≠ streamCheck 2 [0] := by decide +kernel

/-! ### Witnesses: the event controller, the layers and the tiles -/

/-- Yarrow's records wait, and EVENT packets too. -/
def crowded (n k : Nat) : State :=
  { vex (on .lit) (fun v => { v with own := List.replicate k (.event []) }) with mgmt := { (on .lit).mgmt with logQueue := List.replicate n [] } }

theorem witness_EventsAreRaised :
    (on .lit).par (256 * (0x4010 + 16) + K.evMask % 256) = 0 ∧ ((on .lit).writePar (256 * (0x4010 + 16) + K.evMask % 256) 1).par
      (256 * (0x4010 + 16) + K.evMask % 256) ≠ 0 ∧
    (on .lit).par (256 * (0x4010 + 36) + K.evRoute % 256) = 0x0B ∧ (on .lit).par K.logMinSeverity ≤ (evDefault 18).1 ∧
    (evDefault 127).1 < 2 ∧ (on .lit).par (256 * (0x4010 + 127) + K.evRoute % 256) = 0 ∧ (on .lit).can.canOnly = false ∧
    (crowded 64 16).mgmt.logQueue.length = 64 ∧ ((crowded 64 16).vex.own.filter OwnItem.isEvent).length = 16 ∧
    (on .lit).can.evQueue.length < 8 ∧ (on .lit).sup.injecting = false ∧ (sup (on .lit) fun u => { u with injecting := true }).sup.injecting = true ∧
    2 ≤ (evDefault 55).1 := by decide +kernel

/-- A layer's binding to surface 63 under a policy, with a fallback surface. -/
def layer (enable : Bool) (policy fb : Nat) : LayerBind :=
  { wholeBind 64 64 65536 65536 with enable := enable, surface := 63, policy := policy, holdMax := 4, fbSurface := fb }

/-- A frame that binds one layer. -/
def layered (b : LayerBind) : Frame := { Frame.reset with binds := [b] }

/-- Surface 63 has a size and a phase. -/
def shown (p : SurfPhase) : State := surfaceIn 63 p []

/-- What the layer has been judged. -/
def judgedAs (s : State) (l : LayerState) : State := { s with comp := { s.comp with layers := [l] } }

theorem witness_LayersAreJudged :
    (layered (layer true 0 255)).campion = none ∧ (layered (layer true 0 255)).binds[0]? = some (layer true 0 255) ∧
    (shown .valid).notReady 0 (layer true 0 255) = .none ∧ (shown .opened).notReady 0 (layer true 0 255) = .incomplete ∧
    (on .lit).notReady 0 (layer true 0 255) = .noSurface ∧ (layer false 0 255).enable = false ∧ (shown .opened).evMask 16 = false := by
  decide +kernel

theorem witness_LayersAreJudged_policies :
    let good := judgedAs (shown .opened) { LayerState.reset with
      lastGood := some ((shown .valid).drawOf (layer true 0 0)), lastGoodFresh := true }
    (shown .opened).notReady 0 (layer true 1 255) ≠ .none ∧ (layer true 1 255).policy = 1 ∧ (layer true 2 255).fbSurface = 255 ∧
    (good.comp.layers.getD 0 LayerState.reset).judged = false ∧ (good.comp.layers.getD 0 LayerState.reset).lastGoodFresh = true := by
  decide +kernel

theorem witness_LayersAreJudged_holds : ∃ (s : State) (b : LayerBind) (x : LayerDraw), b.policy = 0 ∧ s.notReady 0 b ≠ .none ∧
    (s.comp.layers.getD 0 LayerState.reset).lastGood = some x ∧ s.notReady 0 x.bind = .none ∧
    (s.comp.layers.getD 0 LayerState.reset).lastGoodFresh = true ∧ ((s.runStatistics (layered b)).comp.layers.getD 0 LayerState.reset).nrCount ≤ b.holdMax :=
  ⟨judgedAs (shown .valid) { LayerState.reset with lastGood := some ((shown .valid).drawOf (layer true 0 0)), lastGoodFresh := true },
    { layer true 0 255 with surface := 5 }, (shown .valid).drawOf (layer true 0 0), by decide +kernel⟩

theorem witness_LayersAreJudged_falls : ∃ (s : State) (b : LayerBind), b.policy = 2 ∧ b.fbSurface ≠ 255 ∧ s.notReady 0 b ≠ .none ∧
    ((s.runStatistics (layered b)).comp.layers.getD 0 LayerState.reset).phase = .fallback :=
  ⟨shown .valid, { layer true 2 63 with surface := 5, dstW := 64, dstH := 64 }, by decide +kernel⟩

theorem witness_LayersAreJudged_wide : ∃ b : LayerBind, b.enable = true ∧ 1024 < b.srcW ∧
    ((on .lit).comp.layers.getD 1 LayerState.reset).lbWide = false := ⟨{ layer true 0 255 with srcW := 1025 }, by decide +kernel⟩

theorem witness_TilesDecode :
    let mode := fun (b : Byte) => b.toNat / 32
    [mode 0x00, mode 0x20, mode 0x40, mode 0x60, mode 0x80, mode 0xA0, mode 0xC4, mode 0xE0] = [0, 1, 2, 3, 4, 5, 6, 7] ∧
    ptcTile #[0x00, 0x07] 0 0 = some (List.replicate 128 7) ∧ ptcTile #[0x00, 0x02] 5 0 = none ∧ ptcTile #[0x00] 0 0 = none ∧
    ptcTile #[0x00, 0x07] 1 0 = none ∧ ptcTile #[0x01, 0x07] 0 0 = none ∧ ptcTile #[0xE0, 0x07] 0 0 = none ∧ ptcTile #[0x00] 0 1 = none := by
  decide +kernel

/-! ### WellFormed: an ill-formed term for each check, and terms that pass -/

/-- A well-formed packet, and packets that break one bound each (R247). -/
def goodPacket : VxPacket := ⟨List.replicate 16 0, [], 0, false⟩

/-- The ill-formed packets. -/
def badPackets : List VxPacket :=
  [{ goodPacket with header := List.replicate 15 0 }, { goodPacket with crc := 2 ^ 32 }]

/-- Refused by the check of well-formed commands. -/
def allBad (l : List Instr) : Bool := l.all fun i => !i.wellFormed

theorem test_wellFormed_packets :
    allBad (badPackets.map .commit ++ badPackets.map .surfWrite ++ badPackets.map .surfRead ++ badPackets.map .beamLine ++
      badPackets.map .paramReq ++ badPackets.map .enum ++ badPackets.map .hostNak ++ badPackets.map .unknownTypePacket ++
      [.packetHeader (List.replicate 17 0) .eop, .packetHeader (List.replicate 16 0) .eop [(64, 0)],
        .packetHeader (List.replicate 16 0) .eop [(0, 65536)], .outputPacketBoundary true false 8193]) = true ∧
    goodPacket.wellFormed = true ∧ { goodPacket with payload := List.replicate 4096 0 }.wellFormed = true ∧
    { goodPacket with payload := List.replicate 4097 0 }.wellFormed = false := by decide +kernel

theorem test_wellFormed_events :
    allBad [.zoneCycleBegin 0 (-1), .halfLockDivergence 65536 0 0, .halfLockDivergence 0 (2 ^ 32) 0, .halfLockDivergence 0 0 (2 ^ 32),
      .guardPassDone [(2048, 0, 0)], .guardPassDone [(0, 512, 0)], .guardPassDone [(0, 0, 4096)], .guardRereadDone [(2048, 0, 0)],
      .senseProbeDone ⟨⟨0, 0, 0, 0, 0⟩, [(16384, ⟨0, 0, 0, 0, 0⟩)]⟩, .senseResultsDelivered ⟨0, [(512, 0)]⟩ ⟨0, []⟩,
      .senseResultsDelivered ⟨0, []⟩ ⟨0, [(16384, 0)]⟩, .vledSample 65536 (List.replicate 6 ⟨false, false⟩),
      .vledSample 0 (List.replicate 5 ⟨false, false⟩), .gainPeriod 513 false, .measuredPowerCheck 65536, .tempSample 0 32768,
      .tempSample 0 (-32769), .hostHeartbeat 64 0, .hostHeartbeat 0 256, .deskewDone [0, 0, 0, 0, 0],
      .laneMapAccepted [none, none, none, none, none], .vinDeratingChange 65536, .addrClash 960, .sync 64 0, .sync 0 (2 ^ 32)] = true := by
  decide +kernel

/-- A request in a class that carries none. -/
def badReq : Req := ⟨.can, 6, 0⟩

/-- A request whose token is no byte. -/
def badToken : Req := ⟨.svc, 0, 256⟩

theorem test_wellFormed_requests :
    ([badReq, badToken].all fun r =>
      allBad [.crcsStart r, .crcsAbort r, .surfCmdClose r 0, .surfCmdClear r 0, .surfGeometryWrite r 0 1 [], .read r 0 0, .write r 0 0 [],
        .blockReadInit r 0 0 0 0 0, .blockWriteInit r 0 0 0 0, .blockSeg r 0 false [0], .blockCrc r 0 0, .blockAck r 0 0 0 false, .abort r 0,
        .requestTimeLimit r, .lock r, .unlockReq r 0, .unlockResp r 0 (List.replicate 16 0), .canCmdRecover r, .stateRequestPark r,
        .stateRequestStandby r, .stateRequestReady r, .stateRequestLit r, .stateRequestService r, .persistStore r, .restoreDefaults r,
        .resetCmd r, .capCmdStart r, .injTarget r 0, .updateActivate r, .updateActivateCold r, .updateDiscard r, .eventClear r 0, .logClear r,
        .faultAck r, .logRecords r, .zoneFaultClear r 0, .compatEnable r 0, .ph16kMode r 0, .auxEnable r 0, .reflexEnable r 0,
        .gainSource r 0, .senseIntervalCyc r 0, .ph16kMap r 0 [0], .zoneBlankMask r 0 [0], .commitStage r []]) = true ∧
    can2.wellFormed = true ∧ badReq.wellFormed = false ∧ { badReq with via := .svc }.wellFormed = true := by decide +kernel

theorem test_wellFormed_operands :
    allBad [.surfGeometryWrite can2 0 0 [], .surfGeometryWrite can2 0 8 [], .surfGeometryWrite can2 0 1 (List.replicate 57 0),
      .read can2 65536 0, .read can2 0 256, .write can2 65536 0 [], .write can2 0 256 [], .write can2 0 0 (List.replicate 57 0),
      .blockReadInit can2 65536 0 0 0 0, .blockReadInit can2 0 0 (2 ^ 32) 0 0, .blockReadInit can2 0 0 0 (2 ^ 32) 0,
      .blockReadInit can2 0 0 0 0 256, .blockWriteInit can2 0 256 0 0, .blockWriteInit can2 0 0 (2 ^ 32) 0, .blockWriteInit can2 0 0 0 (2 ^ 32),
      .blockSeg can2 0 false [], .blockSeg can2 64 false [0], .blockSeg can2 0 false (List.replicate 57 0),
      .blockSeg ⟨.vexlink, 0, 0⟩ (2 ^ 32) false [0], .blockSeg ⟨.vexlink, 0, 0⟩ 0 false (List.replicate 4089 0),
      .blockCrc can2 256 0, .blockCrc can2 0 65536, .blockAck can2 256 0 0 false, .blockAck can2 0 3 0 false, .blockAck can2 0 0 256 false,
      .abort can2 256, .unlockReq can2 256, .unlockResp can2 256 (List.replicate 16 0), .unlockResp can2 0 (List.replicate 15 0)] = true := by
  decide +kernel

/-- Frames that break one bound each (R284, R301, Table 20-1). -/
def badFrames : List CanFrame :=
  [⟨2048, false, false, true, []⟩, ⟨2 ^ 29, true, false, true, []⟩, ⟨0, false, false, true, List.replicate 65 0⟩]

/-- SVC frames that break one bound each. -/
def badSvc : List SvcFrame := [{ body := [], fcrc := 2 ^ 32 }, { body := List.replicate 1039 0, fcrc := 0 }, { body := [], fcrc := 0, start := [1, 2, 3] }]

theorem test_wellFormed_frames :
    allBad (badFrames.map .strangerFrame ++ badFrames.map .malformedFrame ++ badSvc.map .svcGrenz ++ badSvc.map .imgBegin ++
      badSvc.map (Instr.imgData · true) ++ badSvc.map (Instr.imgEnd · true) ++ badSvc.map .imgAbort) = true ∧
    (Instr.strangerFrame ⟨2 ^ 29 - 1, true, false, true, List.replicate 64 0⟩).wellFormed = true ∧
    (Instr.svcGrenz { body := List.replicate 1038 0, fcrc := 0 }).wellFormed = true := by decide +kernel

theorem test_wellFormed_values :
    allBad [.injTarget can2 256, .eventClear can2 256, .zoneFaultClear can2 65536, .compatEnable can2 256, .ph16kMode can2 256,
      .auxEnable can2 256, .reflexEnable can2 256, .gainSource can2 256, .senseIntervalCyc can2 65536, .ph16kMap can2 (2 ^ 32) [0],
      .ph16kMap can2 0 [], .zoneBlankMask can2 (2 ^ 32) [0], .zoneBlankMask can2 0 [], .commitStage can2 (List.replicate 837 0)] = true ∧
    [Instr.zoneFaultClear can2 65535, .senseIntervalCyc can2 60, .commitStage can2 (List.replicate 836 0), .blockSeg can2 63 true [0],
      .tempSample 0 (-400), .sync 63 0, .addrClash 959, .hostHeartbeat 63 255, .halfLockDivergence 65535 0 0].all Instr.wellFormed = true := by
  decide +kernel

/-! ### Values worked in the spec -/

/-- The check string "123456789" (R274). -/
def digits : List Byte := [0x31, 0x32, 0x33, 0x34, 0x35, 0x36, 0x37, 0x38, 0x39]

/-- Table 13-1: the check value of every preset. -/
theorem test_crc_presets :
    ((List.range 9).map fun i => (crcPreset i).map fun p => crc p [] digits) =
      [some 0xE3069283, some 0x29B1, some 0xCBF43926, some 0x0376E6E7, some 0x2189, some 0xBB3D, some 0x4B37, some 0x4B, some 0xF4] := by
  decide +kernel

/-- The worked header of chapter 12: HCRC of the COMMIT to module 5 in epoch 3. -/
def workedHeader : List Byte := [0x05, 0x40, 0x11, 0x01, 0x23, 0x01, 0x38, 0x00, 0x2C, 0x0A, 0x00, 0x00, 0x03, 0x05, 0xE3, 0x8F]

theorem test_header_crc : headerCrc workedHeader = 0x8FE3 ∧ headerBad workedHeader = false ∧ forwarded workedHeader = splice workedHeader 13 [0x06] := by
  decide +kernel

/-- The box record of chapter 6: slot 5, DILATE_PX 4, covering x 1,476 to 1,523 and y 286 to 313. -/
theorem test_box_record :
    let b := parseBox [0x05, 0x01, 0x04, 0x00, 0xC8, 0x05, 0x22, 0x01, 0xEF, 0x05, 0x35, 0x01]
    b = (5, ⟨true, 4, 1480, 290, 1519, 309⟩) ∧ b.2.covers 1476 286 = true ∧ b.2.covers 1475 286 = false ∧ b.2.covers 1523 313 = true ∧
    b.2.covers 1524 313 = false ∧ b.2.covers 1500 314 = false := by decide +kernel

/-- The worked pixel of chapter 2, and pixel (1500, 300) in Z311. -/
theorem test_code_path :
    codePath 40000 100 17000 30000 33288 false 0 = 2281 ∧ codePath 40000 100 17000 30000 33288 true 0 = 0 ∧
    codePath 40000 100 17000 30000 33288 false 3 = 0 ∧ codePath 54024 128 16384 32768 33288 false 0 = 3430 ∧ zoneOf 1500 300 = 311 := by
  decide +kernel

/-- Table 2-6. -/
theorem test_sense_compensation :
    [0, 16, 32, 64, 128, 256, 1024].map senseComp = [32768, 34953, 33825, 33288, 33026, 32897, 32800] := by decide +kernel

/-- The expansion of I12, and the worked scaled sample (Table 4-6): four source pixels around (374, 74). -/
def workedSource (c l : Nat) : Nat :=
  257 * (if c = 374 ∧ l = 74 then 180 else if c = 375 ∧ l = 74 then 200 else if c = 374 ∧ l = 75 then 160 else if c = 375 ∧ l = 75 then 220 else 0)

theorem test_scaled_sample :
    expandPixel 1 0 2730 = (43690, 255) ∧ scalePos 0 0x4000 0 1500 = (374, 40) ∧ scalePos 0 0x4000 0 300 = (74, 40) ∧
    scaleSample workedSource defaultCoefs defaultCoefs (wholeBind 512 128 0x4000 0x4000) 65535 1500 300 = 50377 := by decide +kernel

/-- The running value of Table 4-9. -/
def workedLayer (mode alpha : Nat) : LayerBind := { wholeBind 512 128 0x4000 0x4000 with blend := mode, alpha := alpha }

theorem test_layers :
    blendLayer (workedLayer 1 255) 50377 (51400, 255) = 39511 ∧ blendLayer (workedLayer 4 255) 39511 (6000, 255) = 45511 ∧
    blendLayer (workedLayer 0 200) 45511 (65535, 96) = 51400 ∧ blendLayer (workedLayer 2 255) 51400 (48000, 255) = 48000 ∧
    blendLayer (workedLayer 3 255) 48000 (60000, 128) = 54024 := by decide +kernel

/-- Codes 3,430 and 0 as bytes of the bank (R88). -/
theorem test_bank_bytes : rowCodes [3430, 0] = [0x66, 0x0D, 0x00] ∧ codesOf [0x66, 0x0D, 0x00] = [3430, 0] := by decide +kernel

/-- The worked Campion sample (Table 16-3). -/
def workedMap (c l : Nat) : Nat :=
  257 * (if c = 93 ∧ l = 74 then 120 else if c = 94 ∧ l = 74 then 140 else if c = 93 ∧ l = 75 then 100 else if c = 94 ∧ l = 75 then 160 else 0)

theorem test_campion_sample :
    scaleSample workedMap defaultCoefs defaultCoefs (wholeBind 128 128 0x1000 0x4000) 65535 1500 300 = 30953 ∧ campionDim 0x07 = 49151 ∧
    (30953 * campionDim 0x07 + 32767) / 65535 = 23215 := by decide +kernel

/-- The tiles of Table 5-7: PAL4, RLE and DELTA. -/
theorem test_tiles :
    ((ptcTile (([0x60, 0x00, 0x00, 0xFF, 0x60, 0x80, 0xFF, 0xFF, 0xFF, 0xE4] ++ List.replicate 31 0 : List Byte).toArray) 3 0).getD []).take 4 =
      [0x0000, 0x60FF, 0xFF80, 0xFFFF] ∧
    ((ptcTile [0xA0, 0x4F, 0x00, 0x0F, 0x80, 0x1F, 0xFF].toArray 0 0).getD []) =
      List.replicate 80 0 ++ List.replicate 16 128 ++ List.replicate 32 255 ∧
    ((ptcTile (([0xC4, 0x00, 0x10, 0xF1, 0x78] ++ List.replicate 62 0 ++ [0x00, 0x20] : List Byte).toArray) 2 0).getD []).take 17 =
      [4096, 4112, 4096, 8192, 8304] ++ List.replicate 11 8304 ++ [4096] := by decide +kernel

/-- The zone record of the worked probe (chapter 7) and pixel gain 100 at (1501, 298). -/
def workedZone : State :=
  { on .lit with
    chk := { State.reset.chk with
      cal := calWrite (calWrite State.reset.chk.cal (0x140000 + 64 * 311)
        ([0x37, 0x01] ++ u16 40 ++ u16 16384 ++ u16 32276 ++ u16 63436 ++ u16 0 ++ u16 38400 ++ u16 640 ++ u16 33423)) (2048 * 298 + 1501) [100] }
    zones := State.reset.zones.set 311 { State.reset.zone 311 with closed := true }
    sense := { State.reset.sense with pattern := 21, screens := [K.lumLow, K.lumHigh, K.imbalScreen, K.vfScreen, K.darkScreen].map State.reset.par } }

/-- The worked probe: probe 9,659 of pattern 21 gives RATIO 3,939, DARK 21 and Vf 30,050. -/
theorem test_probe :
    let p := workedZone.formProbe 9659 ⟨52, 49, 1310, 1248, 2010⟩
    probePixel 21 9659 = 2048 * 298 + 1501 ∧ p.zone = 311 ∧ p.sig = 39068 ∧ p.exp = 40621 ∧ p.rcd.ratio = 3939 ∧ p.rcd.dark = 21 ∧
    p.rcd.nH = 2 ∧ p.rcd.nV = 2 ∧ p.rcd.flags = [] ∧ vf01Of 2010 = 30050 := by decide +kernel

/-- The worked bin: one DEAD pixel, reading 310, scaled to 280; and the thermal example, 131.0 C. -/
theorem test_bin_and_temperature :
    (workedZone.c16 311 310 = 4406) ∧ ((4406 * 64 + 31) / 63 + 8) / 16 = 280 ∧ workedZone.estimate 311 30050 = 1310 := by decide +kernel

/-- The headroom target of Z311 (3,355 mV). -/
theorem test_headroom : headroomTarget 30050 350 = (3355, 3355) := by decide +kernel

/-- The limiter's average rule for the worked demand: 32,443; the derated budget at VIN 7.0 V: 392. -/
theorem test_limiter :
    lavgOf (512 * 48 * 5717200) 63 64 3350 560 = 32443 ∧
    ({ State.reset with pwr := { State.reset.pwr with vinMv := 7000 } }).budgetB = 392 ∧ State.reset.budgetB = 560 := by decide +kernel

/-- A chain word in GREY12 and the nonce of chunk 5. -/
theorem test_words :
    chainWord 1 0xABCD = [true, false, true, false, true, false, true, true, true, true, false, false] ∧
    chunkNonce (List.replicate 32 0 ++ [0x00, 0x11, 0x22, 0x33, 0x44, 0x55, 0x66, 0x77, 0x88, 0x99, 0xAA, 0xBB]) 5 =
      [0x00, 0x11, 0x22, 0x33, 0x44, 0x55, 0x66, 0x77, 0x8D, 0x99, 0xAA, 0xBB] := by decide +kernel

/-! ### Small tests: one command on a small state -/

/-- The next state of a command, none where it stops. -/
def ran (c : Instr) (s : State) : Option State :=
  match exec c s with
  | .next t => some t
  | _ => none

/-- The example of R313: module 5 with INTEGRATOR held. -/
def module5 : State := { raisedTo (on .lit) .integrator with can := { State.reset.can with addr := 5 } }

/-- WRITE of FRAME_MAX_CYC 60 in class 10 is answered on 0x2C5 with the bytes of R313, and staged. -/
theorem test_write_frame_max :
    (ran (.write ⟨.can, 10, 0x17⟩ 0x2100 2 [0x3C]) module5).map (fun t => (t.can.out.head?, t.tim.maxCyc == State.reset.tim.maxCyc)) =
      some (some ⟨0x2C5, false, [0x82, 0x17, 0x00, 0x21, 0x02, 0x00, 0x00, 0x00]⟩, true) := by decide +kernel

/-- A length that is not the object's is answered TYPE with the expected LEN (R290, R311), and TJ_SHUTDOWN_C 155 at USER is answered
LEVEL with the level INTEGRATOR (R311). -/
theorem test_write_errors :
    (ran (.write ⟨.can, 10, 0x17⟩ 0x2100 2 [0x3C, 0x00]) module5).map (fun t => t.can.out.head?) =
      some (some ⟨0x2C5, false, [0xFF, 0x17, 0x00, 0x21, 0x02, 0x00, 0x08, 0x00, 0x04, 0x00, 0x00, 0x00, 0x01, 0x00, 0x00, 0x00]⟩) ∧
    (ran (.write ⟨.can, 10, 0x17⟩ 0x2800 4 [0x9B]) { module5 with mgmt := State.reset.mgmt }).map (fun t => t.can.out.head?) =
      some (some ⟨0x2C5, false, [0xFF, 0x17, 0x00, 0x28, 0x04, 0x00, 0x08, 0x00, 0x03, 0x00, 0x00, 0x00, 0x01, 0x00, 0x00, 0x00]⟩) := by
  decide +kernel

/-- BROWN_OUT puts the module in reset with VLED off (R364). -/
theorem test_brown_out :
    (ran .brownOut (on .lit)).map (fun t => (t.pwr.life, t.pwr.lastReset, t.sup.vledOn)) = some (.inReset, .brownOut, false) := by
  decide +kernel

theorem test_reset_causes :
    (ran (.powerOnReset false) (on .lit)).map (fun t => t.pwr.lastReset) = some .por ∧
    (ran .resetN (on .lit)).map (fun t => (t.pwr.life, t.pwr.lastReset)) = some (.inReset, .resetN) := by decide +kernel

/-- TSTAMP after PARK (R343): T0 7,200,000,000 us and 1,000,003 slow counts give 7,230,517,670 us. -/
def parkedAt : State :=
  { on .park with pwr := { (on .park).pwr with life := .parked, refclk := false, tstamp := 7200000000, stopTstamp := 7200000000, slow := 1000003 } }

theorem test_tstamp_after_park : parkedAt.startRefclk.pwr.tstamp = 7230517670 ∧ parkedAt.startRefclk.mgmt.reconstructed = true := by
  decide +kernel

/-- Lane 2 reports COMMA_POS 7 and INVERTED (R234): POL_INV is set and 7 slips issued; at 64 sets it is aligned. -/
def aligning : State := { on .standby with vex := { State.reset.vex with rx := .align } }

theorem test_align_poll :
    (ran (.alignPoll 2 ⟨0, true, some 7⟩) aligning).map (fun t => ((t.vex.lanes.getD 2 Lane.reset).polInv, (t.vex.lanes.getD 2 Lane.reset).slips,
      (t.vex.lanes.getD 2 Lane.reset).aligned)) = some (true, 7, false) ∧
    (ran (.alignPoll 2 ⟨64, false, some 0⟩) aligning).map (fun t => (t.vex.lanes.getD 2 Lane.reset).aligned) = some true := by decide +kernel

/-- Markers at 0, 12, 27 and 5 UI are delayed by 3, 2, 0 and 3 characters; at 35 UI lane 2 fails with SKEW (R235). -/
def deskewing : State :=
  { on .standby with vex := { State.reset.vex with rx := .deskew, lanes := State.reset.vex.lanes.map fun l => { l with aligned := true } } }

theorem test_deskew :
    (ran (.deskewDone [0, 12, 27, 5]) deskewing).map (fun t => (t.vex.rx, t.vex.lanes.map Lane.deskew)) = some (.enum, [3, 2, 0, 3]) ∧
    (ran (.deskewDone [0, 12, 35, 5]) deskewing).map (fun t => t.vex.lastFail) = some 3 := by decide +kernel

/-- The COMMIT of chapter 12 for module 5 in epoch 3 passes through a module of another address or epoch with HOPS one higher (R251, R252). -/
theorem test_packet_header :
    (ran (.packetHeader workedHeader .eop) { on .lit with vex := { State.reset.vex with rx := .up, txLane := .l0, addr := some 4, epoch := 3 } }).map
      (fun t => t.vex.out.head?) = some (some (.forward (splice workedHeader 13 [0x06]))) ∧
    (ran (.packetHeader (splice workedHeader 0 [0x06]) .eop) { on .lit with vex := { State.reset.vex with rx := .up, txLane := .l0, addr := some 4, epoch := 3 } }).map
      (fun t => (t.vex.hdrErr, t.vex.out)) = some (1, []) := by decide +kernel

/-- Overvoltage opens every zone switch and turns VLED off. -/
theorem test_overvoltage :
    (ran .overvoltageEnter (on .lit)).map (fun t => (t.sup.ovHold, t.sup.vledOn, t.zones.any Zone.closed)) = some (true, false, false) := by
  decide +kernel

/-- A host heartbeat of address 0 makes the host present (R202). -/
theorem test_host_heartbeat :
    (ran (.hostHeartbeat 0 9) (on .lit)).map (fun t => t.flt.hostPresent) = some true ∧
    (ran (.hostHeartbeat 63 9) (on .lit)).map (fun t => (t.flt.hostPresent, t.can.foreignBeats)) = some (false, 1) := by decide +kernel

/-- Bus-off and its end (R303). -/
theorem test_bus_off :
    (ran .canBusOff (on .standby)).map (fun t => (t.can.busOff, t.can.busOffs)) = some (true, 1) ∧
    (ran .busOffRecovered { on .standby with can := { State.reset.can with busOff := true, recovering := true } }).map
      (fun t => t.can.busOff) = some false := by decide +kernel

/-- A stranger and a malformed frame are counted (R301), and an address clash too (R302). -/
theorem test_can_counts :
    (ran (.strangerFrame ⟨0x3C0, false, false, true, []⟩) (on .standby)).map (fun t => t.can.strangers) = some 1 ∧
    (ran (.malformedFrame ⟨0x100, false, false, true, [0]⟩) (on .standby)).map (fun t => t.can.malformed) = some 1 := by decide +kernel

/-- SYNC without a staged commit begins no frame. -/
theorem test_sync : (ran (.sync 0 7) (on .lit)).map (fun t => (t.tim.work, t.tim.pend)) = some (none, none) := by decide +kernel

/-- The LED budget is derated at VIN 7.0 V (R22: 39.2 W). -/
theorem test_vin : (ran (.vinDeratingChange 7000) (on .lit)).map (fun t => t.budgetB) = some 392 := by decide +kernel

/-- A closed zone's current sample is kept at its cycle. -/
theorem test_zone_cycle :
    (ran (.zoneCycleBegin 311 26944) { on .lit with zones := State.reset.zones.set 311 { State.reset.zone 311 with closed := true } }).map
      (fun t => (t.zone 311).samples.head?) = some (some 26944) := by decide +kernel

/-- STATE_REQUEST PARK from STANDBY starts a transition; one for the state in force starts none (R351). -/
theorem test_state_request :
    (ran (.stateRequestPark can2) (on .standby)).map (fun t => (t.pwr.trans.isSome, t.pwr.dev)) = some (true, .standby) ∧
    (ran (.stateRequestStandby can2) (on .standby)).map (fun t => t.pwr.trans) = some none := by decide +kernel

/-- UNLOCK of INTEGRATOR answers a challenge of 16 bytes, held until its response (R305). -/
theorem test_unlock :
    (ran (.unlockReq can2 1) (on .standby)).map (fun t => (t.mgmt.can.level, t.mgmt.can.challenge.isSome)) = some (.user, true) ∧
    (ran (.lock can2) (raisedTo (on .standby) .service)).map (fun t => (t.mgmt.can.level, t.mgmt.svc.level)) = some (.user, .service) := by
  decide +kernel

/-- A silent SVC transfer ends with its slot erased (R384); an idle line discards a partial frame (R378). -/
theorem test_svc_silence :
    (ran .svcTransferSilence { on .standby with rally := { State.reset.rally with transfer := true } }).map (fun t => t.rally.transfer) = some false ∧
    (ran .svcIdleDiscard { on .standby with rally := { State.reset.rally with svcBuf := [0xA5] } }).map (fun t => t.rally.svcBuf) = some [] := by
  decide +kernel

/-- RALLY_REVERT and the end of probation outside a hand-over and probation leave Rally as it is. -/
theorem test_rally :
    (ran .rallyRevert (on .standby)).map (fun t => t.rally.phase) = some (on .standby).rally.phase ∧
    (ran .probationEnd (on .standby)).map (fun t => (t.rally.phase, t.rally.outcome)) = some ((on .standby).rally.phase, 0) := by decide +kernel

/-- The step takes the command in front, and idles on an empty queue. -/
theorem test_step :
    (match step { on .standby with pending := [.slowCrystalChangeover, .logWrite] } with
      | .next t => some (t.pending, t.pwr.crystal)
      | _ => none) = some ([.logWrite], true) ∧
    (match step (on .standby) with
      | .next t => some (t.pending, t.pwr.dev)
      | _ => none) = some ([], .standby) := by decide +kernel

/-! ### Witnesses: what waits, what is carried over -/

theorem witness_StepRunsFrontOrTicks_errors : ∃ (s : State) (l : Lane), s.pwr.link = true ∧ s.vex.rx = .up ∧ s.pending = [] ∧
    s.vex.lanes[3]? = some l ∧ (s.vex.charErrors.filter fun x => x.val == 3).length = 2 :=
  ⟨vex (member .lit) fun v => { v with charErrors := [3, 0, 3] }, _, by decide +kernel, by decide +kernel, rfl, rfl, by decide +kernel⟩

theorem witness_StepRunsFrontOrTicks_down : (on .lit).vex.rx ≠ .up ∧ State.reset.pwr.link = false := by decide +kernel

theorem witness_SleepAndWake_levels :
    asleepSoon.pwr.sleepDue = true ∧ (asleepSoon.writePar K.parkRetain 1).flag K.parkRetain = true ∧ (on .standby).flag K.parkRetain = false ∧
    (on .standby).sup.feRunning = false := by decide +kernel

theorem witness_ImagesAreStaged_chunk : ∀ hdr data, ∃ tags : List (List Byte), (openChunk hdr 0 data).2 = tags.getD 0 [] ∧
    (openChunk hdr 0 data).2 ≠ ([] ++ [(openChunk hdr 0 data).2 ++ [0]]).getD 0 [] :=
  fun hdr data => ⟨[(openChunk hdr 0 data).2], rfl, by simp⟩

theorem witness_ImagesAreStaged_look :
    (staging [] [] 0).rally.chunkLook = none ∧ (serviced1 .idle fun r => { r with chunkLook := some [1] }).rally.chunkLook ≠ none := by decide +kernel

theorem witness_CarriedRequests_behind : ∃ (s : State) (w : Waiting), (s.surf.waiting.filter fun x => decide (x.who ≠ .block)) = [w] ∧
    s.inUse w.item.surface = true ∧ s.queueBytes + w.item.size ≤ 32768 ∧ s.queueBytes < 32768 ∧ s.blockWaits = true :=
  let w : Waiting := ⟨.close 1, 0, .request (Safety.writeMsg can2 0x2311 K.surfCmd (u8 2))⟩
  ⟨tim (busy [⟨.bytes 1 0 [] false none (0, 0), 0, .block⟩, w] []) fun t => { t with work := some { frame .statistics 0 with surfaces := [1] } },
    w, by decide +kernel⟩

/-- The revert after a crash of the new image, with what the record carries. -/
def crashed (s : State) (reason : Nat) : State :=
  { s with
    rally := { s.rally with phase := .handover, bankB := decide (reason = 6), reason := reason, carried := some s.carriedNow }
    pwr := { s.pwr with held := [.rallyRevert] } }

theorem witness_BanksAreHandedOver_carried :
    (∀ c, (crashed (ownRecord 7) 6).rally.carried = some c → c.renderHeld = false) ∧ (crashed (ownRecord 7) 6).rally.carried ≠ none ∧
    (crashed (ownRecord 7) 6).ownRecordHolds (!(crashed (ownRecord 7) 6).rally.bankB) = true ∧ (crashed (ownRecord 7) 6).rally.coldRun = false ∧
    (crashed (ownRecord 7) 2).ownRecordHolds (crashed (ownRecord 7) 2).rally.bankB = true ∧
    (crashed (ownRecord 7) 6).surf.waiting.all (fun w => !w.isPacket) = true ∧ (crashed (ownRecord 7) 6).pwr.held.contains .rallyRevert = true ∧
    (crashed (ownRecord 7) 6).nextIsPark = false :=
  ⟨fun c h => by cases h; decide +kernel, by decide +kernel⟩

theorem witness_BanksAreHandedOver_anew : (imageStaged id).rally.carried = none ∧
    (crashed (ownRecord 6) 6).ownRecordHolds (!(crashed (ownRecord 6) 6).rally.bankB) = false ∧ (imageStaged id).pwr.dev = .standby ∧
    (on .lit).pwr.dev ≠ .standby := by decide +kernel

theorem witness_PersistenceAndLog_restoring :
    (dict (on .standby) fun d => { d with restoring := true }).flashWorks = true ∧
    (dict (on .standby) fun d => { d with restoring := true }).dict.committing = false ∧
    (dict (on .standby) fun d => { d with restoring := true }).dict.restoring = true := by decide +kernel

/-! ### What this sitting's operations do -/

/-- Three character errors, two of them on lane 3 (R239): a microsecond counts them. -/
theorem test_char_errors_counted :
    let s := tick (vex (member .lit) fun v => { v with charErrors := [3, 0, 3] })
    s.vex.charErrors = [] ∧ s.vex.lanes.map Lane.errors = [1, 0, 0, 2] := by decide +kernel

/-- RHO of a run that ACQUIRE ends is logged as one TRANSIENT (R175, R197). -/
theorem test_endRun_counts : ({ Zone.reset with fePending := true, transients := 65535 } : Zone).endRun.transients = 0 ∧
    Zone.reset.endRun = Zone.reset := by decide +kernel

/-- The captured instruction register ends in 01, and bit 0 of the identification code is 1 (IEEE 1149.1; log 51). -/
theorem test_tap_fixed : irCaptured.take 2 = [true, false] ∧ idcodeBits.take 1 = [true] ∧ idcodeBits.length = 32 := by simp [irCaptured, idcodeBits]

end Sys2Proof.Tests
end

section
/-! PROOFS. The pixel array (chapter 2): the code path (R37) and the default phase slots (R29). -/

namespace Sys2Proof.Machine

/-! ### The code path (R37, R112, R116) -/

theorem codeValue_lt (i g gz lf s : Nat) : codeValue i g gz lf s < 4096 :=
  Nat.lt_succ_of_le (Nat.min_le_right _ _)

/-- With `lo` at most `hi` the two orders of the bounds agree. -/
theorem clampNat_eq_min_max (v : Nat) {lo hi : Nat} (h : lo ≤ hi) : clampNat v lo hi = min hi (max lo v) := by
  unfold clampNat
  omega

theorem codePath_of_forced {inBox : Bool} {defect : Nat} (h : inBox = true ∨ defect = 3) (i g gz lf s : Nat) :
    codePath i g gz lf s inBox defect = 0 :=
  if_pos (by simpa using h)

theorem codePath_of_unforced {inBox : Bool} {defect : Nat} (hb : inBox = false) (hd : defect ≠ 3) (i g gz lf s : Nat) :
    codePath i g gz lf s inBox defect = codeValue i g gz lf s :=
  if_neg (by simp [hb, hd])

theorem codePath_lt (i g gz lf s : Nat) (inBox : Bool) (defect : Nat) : codePath i g gz lf s inBox defect < 4096 := by
  unfold codePath
  split
  · decide
  · exact codeValue_lt ..

/-- A row's code is the code path of the pixel's snapshot inputs, forced by the frame's boxes and the defect map. -/
theorem rowOf_getD (f : Frame) (p : PassSource) {x : Nat} (y d : Nat) (hx : x < 2048) :
    (f.rowOf p y).getD x d =
      codePath (f.intensity p x y) (gpOf f.cal (2048 * y + x)) (f.gz.getD (zoneOf x y) 16384) f.limit f.sComp
        (f.inBox x y) (defectIn f.cal x y) := by
  simp [Frame.rowOf, upTo, List.getD, hx, Frame.code, Frame.inBox]

/-- Settles O22: a row's code is the code path's, which the boxes and STUCK_ON force to 0 and step 6 bounds. -/
theorem coveredPixelsAreDark : Obligations.CoveredPixelsAreDark := by
  intro f x y hx
  rw [rowOf_getD f f.source y 1 hx]
  refine ⟨codePath_lt .., fun forced => codePath_of_forced forced .., fun hbox hdefect => ?_⟩
  rw [codePath_of_unforced hbox hdefect, codeValue, clampNat_eq_min_max _ (by decide)]
  rfl -- the statement writes the model's divisors as powers of two

/-! ### The default phase slots (R29) -/

/-- The default phase table is the identity. -/
theorem reset_phase_entry {k : Nat} (hk : k < 16) : State.reset.par (0x210101 + k) = k := by
  revert k
  decide

/-- The default selection, read as a number below 16. -/
theorem reset_phase_selection {z : Nat} (hz : z < 512) :
    ((State.reset.dom K.zonePhaseSel).getD z 0).toNat = (z + z / 32) % 16 := by
  have hdom : State.reset.dom K.zonePhaseSel = (upTo 512).map fun z => BitVec.ofNat 8 ((z + z / 32) % 16) := rfl
  simp [hdom, upTo, List.getD, hz]
  omega

theorem reset_slotOf {z : Nat} (hz : z < 512) : State.reset.slotOf z = (z + z / 32) % 16 := by
  rw [State.slotOf, reset_phase_selection hz, Nat.mod_mod, reset_phase_entry (Nat.mod_lt _ (by decide))]

/-- A zone row band is 32 zones: within it the slots run on from the band's first one. -/
theorem reset_slotOf_band {band i : Nat} (hb : band < 16) (hi : i < 32) :
    State.reset.slotOf (32 * band + i) = (33 * band + i) % 16 := by
  rw [reset_slotOf (by omega)]
  omega

/-- Any 32 consecutive numbers fall twice on each remainder by 16. -/
theorem count_window_mod {k : Nat} (a : Nat) (hk : k < 16) : ((List.range 32).filter fun i => (a + i) % 16 == k).length = 2 := by
  have hshift (i : Nat) : ((a + i) % 16 == k) = decide (i ≡ k + 15 * a [MOD 16]) := by
    rw [beq_eq_decide]
    exact decide_eq_decide.mpr (by unfold Nat.ModEq; omega)
  calc ((List.range 32).filter fun i => (a + i) % 16 == k).length
      = Nat.count (· ≡ k + 15 * a [MOD 16]) 32 := by simp only [hshift, Nat.count, List.countP_eq_length_filter]
    _ = 2 := by simp [Nat.count_modEq_card 32 (by decide : 0 < 16)]

theorem reset_band_slot_twice {band k : Nat} (hb : band < 16) (hk : k < 16) :
    ((List.range 32).filter fun i => State.reset.slotOf (32 * band + i) == k).length = 2 := by
  rw [← count_window_mod (33 * band) hk]
  congr 1
  refine List.filter_congr fun i hi => ?_
  rw [reset_slotOf_band hb (List.mem_range.mp hi)]

/-- The zones of the first `n` bands fall `2 * n` times on each slot: each band adds its two. -/
theorem reset_bands_slot_count {k n : Nat} (hn : n ≤ 16) (hk : k < 16) :
    ((List.range (32 * n)).filter fun z => State.reset.slotOf z == k).length = 2 * n := by
  induction n with
  | zero => rfl
  | succ n ih =>
    have hband := reset_band_slot_twice (band := n) (by omega) hk
    rw [Nat.mul_succ, List.range_add, List.filter_append, List.length_append, ih (by omega), List.filter_map, List.length_map]
    exact congrArg (2 * n + ·) hband

/-- Settles O8: the selection in closed form, two zones a slot in each band, and 16 bands. -/
theorem phaseSlotsAreSpread : Obligations.PhaseSlotsAreSpread := by
  refine ⟨fun k => reset_phase_entry, fun z => reset_slotOf, fun band k => reset_band_slot_twice, fun z hz => ?_,
    fun k => reset_bands_slot_count (n := 16) (le_refl _)⟩
  rw [reset_slotOf (by omega), reset_slotOf (by omega)]
  omega

end Sys2Proof.Machine
end

section
/-! PROOFS. Packet headers (chapter 12): the header check (R249). -/

namespace Sys2Proof.Machine

/-! ### CRC16_1021 as one register, bit by bit (R249, R272) -/

theorem bitOf_toNat {w : Nat} (v : BitVec w) (i : Nat) : bitOf v.toNat i = v.getLsbD i := by
  rw [BitVec.getLsbD, Nat.testBit_eq_decide_div_mod_eq, bitOf, beq_eq_decide]

/-- One bit entering a register of 16 bits under the polynomial 0x1021. -/
def crc16Shift (r : BitVec 16) (bit : Bool) : BitVec 16 :=
  if r.getMsbD 0 != bit then (r <<< 1) ^^^ 0x1021#16 else r <<< 1

/-- One byte entering that register, most significant bit first. -/
def crc16ShiftByte (r : BitVec 16) (x : Byte) : BitVec 16 :=
  (List.range 8).foldl (fun r i => crc16Shift r (x.getMsbD i)) r

theorem toNat_crc16Shift (r : BitVec 16) (bit : Bool) :
    (crc16Shift r bit).toNat = crcBit crc16Params r.toNat bit := by
  have htop : bitOf r.toNat (crc16Params.width - 1) = r.getMsbD 0 := bitOf_toNat r 15
  have hshift : (r <<< 1).toNat = r.toNat * 2 % 2 ^ crc16Params.width := by
    rw [BitVec.toNat_shiftLeft, Nat.shiftLeft_eq]
    rfl
  rw [crcBit, htop, ← hshift, crc16Shift]
  split
  · rw [BitVec.toNat_xor]
    rfl
  · exact (Nat.xor_zero _).symm

/-- The two numberings of a byte's bits give one sequence, highest bit first. -/
theorem bitOf_downTo_eq_getMsbD (x : Byte) :
    [7, 6, 5, 4, 3, 2, 1, 0].map (bitOf x.toNat) = (List.range 8).map x.getMsbD := by
  simp only [funext (bitOf_toNat x)]
  rfl

theorem toNat_crc16ShiftByte (r : BitVec 16) (x : Byte) :
    (crc16ShiftByte r x).toNat = crcByte crc16Params r.toNat x := by
  calc (crc16ShiftByte r x).toNat
      = (((List.range 8).map x.getMsbD).foldl crc16Shift r).toNat := by rw [List.foldl_map, crc16ShiftByte]
    _ = ((List.range 8).map x.getMsbD).foldl (crcBit crc16Params) r.toNat :=
        (List.foldl_hom BitVec.toNat fun r bit => (toNat_crc16Shift r bit).symm).symm
    _ = crcByte crc16Params r.toNat x := by
        rw [← bitOf_downTo_eq_getMsbD, List.foldl_map]
        rfl

theorem crc16_eq_foldl (bs : List Byte) : crc16 bs = (bs.foldl crc16ShiftByte 0xFFFF#16).toNat :=
  calc crc16 bs
      = bs.foldl (crcByte crc16Params) (0xFFFF#16).toNat := Nat.xor_zero _
    _ = (bs.foldl crc16ShiftByte 0xFFFF#16).toNat :=
        List.foldl_hom BitVec.toNat fun r x => (toNat_crc16ShiftByte r x).symm

/-! ### What HOPS, header byte 13, enters -/

theorem field_set_of_le {bs : List Byte} {i off n : Nat} (h : off + n ≤ i) (v : Byte) :
    field (bs.set i v) off n = field bs off n := by
  rw [field, field, List.take_drop, List.take_drop, List.take_set_of_le h]

theorem field_set_of_lt {bs : List Byte} {i off n : Nat} (h : i < off) (v : Byte) :
    field (bs.set i v) off n = field bs off n := by
  rw [field, List.drop_set_of_lt h, field]

theorem headerCrc_set_hops (b : List Byte) (hops : Byte) : headerCrc (b.set 13 hops) = headerCrc b := by
  rw [headerCrc, List.take_set_of_le (le_refl _), headerCrc]

theorem parseHeader_set_hops (b : List Byte) (hops : Byte) :
    parseHeader (b.set 13 hops) = { parseHeader b with hops := field (b.set 13 hops) 13 1 } := by
  have hbefore {off n : Nat} (h : off + n ≤ 13) := field_set_of_le (bs := b) h hops
  have hafter := field_set_of_lt (bs := b) (n := 2) (by decide : 13 < 14) hops
  simp [parseHeader, hbefore, hafter]

/-- No test of row 1 of Table 12-3 reads HOPS. -/
theorem headerBad_set_hops (b : List Byte) (hops : Byte) : headerBad (b.set 13 hops) = headerBad b := by
  simp only [headerBad, headerCrc_set_hops, parseHeader_set_hops, List.length_set, VxHeader.kind]

/-- Settles O7: the bit by bit register is CRC16_1021's, and neither HCRC nor row 1 of Table 12-3 reads HOPS. -/
theorem headerCheckSkipsHops : Obligations.HeaderCheckSkipsHops := by
  intro b hops _
  exact ⟨crc16_eq_foldl (b.take 13 ++ [0]), headerCrc_set_hops b hops, headerBad_set_hops b hops⟩

end Sys2Proof.Machine
end
